-- ==== Sys2Proof/Word.lean ====
section
/-! DEFINITION. The words the KS1620's rules count, wrap and mask. -/

namespace Sys2Proof

/-- One byte of the link (R122, R157). -/
abbrev Byte := BitVec 8

/-- A set of channels, CHn at bit n (section 6.3, R158). -/
abbrev ChSet := BitVec 16

/-- Membership in a channel set. -/
def ChSet.has (m : ChSet) (c : Fin 16) : Bool := m.getLsbD c.val

/-- The set with one channel added. -/
def ChSet.add (m : ChSet) (c : Fin 16) : ChSet := m ||| (1#16 <<< c.val)

/-- The set with one channel removed. -/
def ChSet.drop (m : ChSet) (c : Fin 16) : ChSet := m &&& ~~~(1#16 <<< c.val)

/-- The members of a channel set, in rising order. -/
def ChSet.toList (m : ChSet) : List (Fin 16) := (List.finRange 16).filter m.has

end Sys2Proof
end

