-- ==== Sys2Proof/Syntax.lean ====
section
/-! DEFINITION. The commands of the block: one constructor of `Instr` for each row of spec/opcode_table.json. -/

namespace Sys2Proof

/-- The levels of the six sampled input lines (R99, R113); `true` is high. -/
structure InputLines where
  /-- FLT0 and FLT1 -/
  flt  : Vector Bool 2
  /-- TACH0 to TACH3 -/
  tach : Vector Bool 4
  deriving DecidableEq, Repr

/-- The thirty-two request kinds of Table 51. -/
inductive RequestKind where
  | getInfo | getStatus | setLink | resetDevice
  | tbConfig | tbStart | tbStop | tbPeriod | tbQuery
  | chQuota | segAppend | segReplace
  | chConfig | chLevel | chStart | chPause | chResume | chFlush | chQuery
  | rpDefine | rpQuery | pairConfig | routeSet | pinConfig | outQuery
  | faultConfig | faultClear | faultQuery | smConfig | smQuery | rptAck | rptResend
  deriving DecidableEq, Repr

/-- The commands. A request carries its SEQ and its raw payload bytes (R157, R159), so that a payload of a wrong
length or with a field out of range is an ordinary operand, which the request handler refuses (R138). -/
inductive Instr where
  /-- The supply rises (R155). -/
  | powerOnReset
  /-- RST_N goes low (R136). -/
  | rstNAssert
  /-- RST_N rises again (R155). -/
  | pinReset
  /-- The millisecond tick (R2). -/
  | millisecondTick
  /-- One tick of a timebase (R3). -/
  | timebaseTick (tb : Fin 4)
  /-- The tick of a timebase that is a boundary (R4). -/
  | boundary (tb : Fin 4)
  /-- A pair's rise delay reaches the dead time (R82). -/
  | pairRiseDelayExpiry (pair : Fin 8)
  /-- The once-per-microsecond sample of the input lines (R99, R113). -/
  | inputSample (lines : InputLines)
  /-- A point's gathering timer expires (R69). -/
  | gatheringTimerExpiry (point : Fin 8)
  /-- A speed unit's window ends (R114). -/
  | speedWindowExpiry (unit : Fin 4)
  /-- The host-silence timer reaches its limit (R133). -/
  | hostSilenceExpiry
  /-- The inter-byte timer expires (R125). -/
  | interByteTimeout
  /-- RXD has stayed low until the 20th millisecond tick (R135). -/
  | linkBreak
  /-- The stop bit of a character is sampled high (R123). -/
  | characterReceived (byte : Byte)
  /-- The stop bit of a character is sampled low (R126). -/
  | characterFault
  /-- The last stop bit of the frame on TXD ends (R130). -/
  | transmitCompletion
  /-- The last character of an aborted frame ends (R135). -/
  | abortedFrameEnd
  /-- A request frame whose TYPE is no request code (R157). -/
  | unknownRequestKind (seq type : Byte) (payload : List Byte)
  | getInfo (seq : Byte) (payload : List Byte)
  | getStatus (seq : Byte) (payload : List Byte)
  | setLink (seq : Byte) (payload : List Byte)
  | resetDevice (seq : Byte) (payload : List Byte)
  | tbConfig (seq : Byte) (payload : List Byte)
  | tbStart (seq : Byte) (payload : List Byte)
  | tbStop (seq : Byte) (payload : List Byte)
  | tbPeriod (seq : Byte) (payload : List Byte)
  | tbQuery (seq : Byte) (payload : List Byte)
  | chQuota (seq : Byte) (payload : List Byte)
  | segAppend (seq : Byte) (payload : List Byte)
  | segReplace (seq : Byte) (payload : List Byte)
  | chConfig (seq : Byte) (payload : List Byte)
  | chLevel (seq : Byte) (payload : List Byte)
  | chStart (seq : Byte) (payload : List Byte)
  | chPause (seq : Byte) (payload : List Byte)
  | chResume (seq : Byte) (payload : List Byte)
  | chFlush (seq : Byte) (payload : List Byte)
  | chQuery (seq : Byte) (payload : List Byte)
  | rpDefine (seq : Byte) (payload : List Byte)
  | rpQuery (seq : Byte) (payload : List Byte)
  | pairConfig (seq : Byte) (payload : List Byte)
  | routeSet (seq : Byte) (payload : List Byte)
  | pinConfig (seq : Byte) (payload : List Byte)
  | outQuery (seq : Byte) (payload : List Byte)
  | faultConfig (seq : Byte) (payload : List Byte)
  | faultClear (seq : Byte) (payload : List Byte)
  | faultQuery (seq : Byte) (payload : List Byte)
  | smConfig (seq : Byte) (payload : List Byte)
  | smQuery (seq : Byte) (payload : List Byte)
  | rptAck (seq : Byte) (payload : List Byte)
  | rptResend (seq : Byte) (payload : List Byte)
  /-- RXD rises (R134). -/
  | rxdRisingEdge
  /-- RXD falls (R122). -/
  | rxdFallingEdge
  deriving DecidableEq, Repr

end Sys2Proof
end

