-- ==== Sys2Proof/Decode.lean ====
section
/-! DEFINITION. The TYPE codes of the request kinds (R157, Table 58), the command a request frame spells, and `decodeTableWord`. No row of the table has bits of its own, so no table word spells a command. -/

namespace Sys2Proof

/-- The TYPE code of a request kind (Table 58). -/
def RequestKind.code : RequestKind → Byte
  | .getInfo => 0x01
  | .getStatus => 0x02
  | .setLink => 0x03
  | .resetDevice => 0x04
  | .tbConfig => 0x05
  | .tbStart => 0x06
  | .tbStop => 0x07
  | .tbPeriod => 0x08
  | .tbQuery => 0x09
  | .chQuota => 0x0A
  | .segAppend => 0x0B
  | .segReplace => 0x0C
  | .chConfig => 0x0D
  | .chLevel => 0x0E
  | .chStart => 0x0F
  | .chPause => 0x10
  | .chResume => 0x11
  | .chFlush => 0x12
  | .chQuery => 0x13
  | .rpDefine => 0x14
  | .rpQuery => 0x15
  | .pairConfig => 0x16
  | .routeSet => 0x17
  | .pinConfig => 0x18
  | .outQuery => 0x19
  | .faultConfig => 0x1A
  | .faultClear => 0x1B
  | .faultQuery => 0x1C
  | .smConfig => 0x1D
  | .smQuery => 0x1E
  | .rptAck => 0x1F
  | .rptResend => 0x20

/-- Every request kind, in the order of Table 58. -/
def RequestKind.all : List RequestKind :=
  [.getInfo, .getStatus, .setLink, .resetDevice, .tbConfig, .tbStart, .tbStop, .tbPeriod, .tbQuery,
    .chQuota, .segAppend, .segReplace, .chConfig, .chLevel, .chStart, .chPause, .chResume, .chFlush, .chQuery,
    .rpDefine, .rpQuery, .pairConfig, .routeSet, .pinConfig, .outQuery, .faultConfig, .faultClear, .faultQuery,
    .smConfig, .smQuery, .rptAck, .rptResend]

/-- The request kind a TYPE byte names, if it names one (R157). -/
def requestKindOf (type : Byte) : Option RequestKind :=
  RequestKind.all.find? fun k => k.code == type

/-- The command of a request kind. -/
def RequestKind.command (k : RequestKind) (seq : Byte) (payload : List Byte) : Instr :=
  match k with
  | .getInfo => .getInfo seq payload
  | .getStatus => .getStatus seq payload
  | .setLink => .setLink seq payload
  | .resetDevice => .resetDevice seq payload
  | .tbConfig => .tbConfig seq payload
  | .tbStart => .tbStart seq payload
  | .tbStop => .tbStop seq payload
  | .tbPeriod => .tbPeriod seq payload
  | .tbQuery => .tbQuery seq payload
  | .chQuota => .chQuota seq payload
  | .segAppend => .segAppend seq payload
  | .segReplace => .segReplace seq payload
  | .chConfig => .chConfig seq payload
  | .chLevel => .chLevel seq payload
  | .chStart => .chStart seq payload
  | .chPause => .chPause seq payload
  | .chResume => .chResume seq payload
  | .chFlush => .chFlush seq payload
  | .chQuery => .chQuery seq payload
  | .rpDefine => .rpDefine seq payload
  | .rpQuery => .rpQuery seq payload
  | .pairConfig => .pairConfig seq payload
  | .routeSet => .routeSet seq payload
  | .pinConfig => .pinConfig seq payload
  | .outQuery => .outQuery seq payload
  | .faultConfig => .faultConfig seq payload
  | .faultClear => .faultClear seq payload
  | .faultQuery => .faultQuery seq payload
  | .smConfig => .smConfig seq payload
  | .smQuery => .smQuery seq payload
  | .rptAck => .rptAck seq payload
  | .rptResend => .rptResend seq payload

/-- The command a request frame's body spells: the kind its TYPE names, or an unknown kind (R157). -/
def commandOfBody (seq type : Byte) (payload : List Byte) : Instr :=
  match requestKindOf type with
  | some k => k.command seq payload
  | none => .unknownRequestKind seq type payload

/-- The SEQ, TYPE and payload of the frame by which a request command reaches the part; none for an event. -/
def Instr.body? : Instr → Option (Byte × Byte × List Byte)
  | .powerOnReset => none
  | .rstNAssert => none
  | .pinReset => none
  | .millisecondTick => none
  | .timebaseTick _ => none
  | .boundary _ => none
  | .pairRiseDelayExpiry _ => none
  | .inputSample _ => none
  | .gatheringTimerExpiry _ => none
  | .speedWindowExpiry _ => none
  | .hostSilenceExpiry => none
  | .interByteTimeout => none
  | .linkBreak => none
  | .characterReceived _ => none
  | .characterFault => none
  | .transmitCompletion => none
  | .abortedFrameEnd => none
  | .rxdRisingEdge => none
  | .rxdFallingEdge => none
  | .unknownRequestKind seq type payload => some (seq, type, payload)
  | .getInfo seq payload => some (seq, RequestKind.getInfo.code, payload)
  | .getStatus seq payload => some (seq, RequestKind.getStatus.code, payload)
  | .setLink seq payload => some (seq, RequestKind.setLink.code, payload)
  | .resetDevice seq payload => some (seq, RequestKind.resetDevice.code, payload)
  | .tbConfig seq payload => some (seq, RequestKind.tbConfig.code, payload)
  | .tbStart seq payload => some (seq, RequestKind.tbStart.code, payload)
  | .tbStop seq payload => some (seq, RequestKind.tbStop.code, payload)
  | .tbPeriod seq payload => some (seq, RequestKind.tbPeriod.code, payload)
  | .tbQuery seq payload => some (seq, RequestKind.tbQuery.code, payload)
  | .chQuota seq payload => some (seq, RequestKind.chQuota.code, payload)
  | .segAppend seq payload => some (seq, RequestKind.segAppend.code, payload)
  | .segReplace seq payload => some (seq, RequestKind.segReplace.code, payload)
  | .chConfig seq payload => some (seq, RequestKind.chConfig.code, payload)
  | .chLevel seq payload => some (seq, RequestKind.chLevel.code, payload)
  | .chStart seq payload => some (seq, RequestKind.chStart.code, payload)
  | .chPause seq payload => some (seq, RequestKind.chPause.code, payload)
  | .chResume seq payload => some (seq, RequestKind.chResume.code, payload)
  | .chFlush seq payload => some (seq, RequestKind.chFlush.code, payload)
  | .chQuery seq payload => some (seq, RequestKind.chQuery.code, payload)
  | .rpDefine seq payload => some (seq, RequestKind.rpDefine.code, payload)
  | .rpQuery seq payload => some (seq, RequestKind.rpQuery.code, payload)
  | .pairConfig seq payload => some (seq, RequestKind.pairConfig.code, payload)
  | .routeSet seq payload => some (seq, RequestKind.routeSet.code, payload)
  | .pinConfig seq payload => some (seq, RequestKind.pinConfig.code, payload)
  | .outQuery seq payload => some (seq, RequestKind.outQuery.code, payload)
  | .faultConfig seq payload => some (seq, RequestKind.faultConfig.code, payload)
  | .faultClear seq payload => some (seq, RequestKind.faultClear.code, payload)
  | .faultQuery seq payload => some (seq, RequestKind.faultQuery.code, payload)
  | .smConfig seq payload => some (seq, RequestKind.smConfig.code, payload)
  | .smQuery seq payload => some (seq, RequestKind.smQuery.code, payload)
  | .rptAck seq payload => some (seq, RequestKind.rptAck.code, payload)
  | .rptResend seq payload => some (seq, RequestKind.rptResend.code, payload)

/-- The command a word of spec/opcode_table.json spells: no row of that table gives bits, so none. -/
def decodeTableWord (_nbits _w : Nat) : Option Instr := none

end Sys2Proof
end

