-- ==== Sys2Proof/Config.lean ====
section
/-! DEFINITION. What the part fixes: capacities and reference-clock counts, and the two free values that the spec leaves open (log entries 1 and 2). -/

namespace Sys2Proof.Config

/-- Reference clock periods in one millisecond tick (R2). -/
def refPerMillisecond : Nat := 32000

/-- Reference clock periods in one input sample (R99). -/
def refPerSample : Nat := 32

/-- Segment records in the pool (R23). -/
def poolSize : Nat := 512

/-- Places of the inbound request buffer (R128). -/
def inboundSize : Nat := 2

/-- Places of the response holding queue (R129). -/
def holdingSize : Nat := 2

/-- Millisecond ticks of the inter-byte timer (R125). -/
def interByteLimit : Nat := 5

/-- Millisecond ticks of low RXD that make a link break (R134). -/
def breakLimit : Nat := 20

/-- Records of the report queue, the last of them only for OVERFLOW (R148, R150). -/
def reportQueueSize : Nat := 32

/-- The first byte of every frame, SYNC (R157, Table 57). -/
def syncByte : Byte := 0xA5

/-- FREE VALUE (R5, R6, R57, R102, R117, R149; log entry 1): the order in which the n-th group of simultaneous parts is
taken, as a number that `orderFrom` reads. It has no body: nothing is known of it. -/
opaque freeOrder : Nat → Nat

/-- FREE VALUE (R122; log entry 2): whether the middle of a bit time of an odd number of reference periods is rounded
up. It has no body: nothing is known of it. -/
opaque middleUp : Nat → Bool

end Sys2Proof.Config
end

