-- ==== Sys2Proof/Machine/State.lean ====
section
/-! DEFINITION. All the state the spec gives the KS1620, as plain data, with its reset values. -/

namespace Sys2Proof.Machine

/-! ## Timebases (chapter 1) -/

inductive TbState where
  | halted | running
  deriving DecidableEq, Repr

/-- A period waiting for a boundary, with the SEQ of its request if that carried the notify mark (Table 7, R10). -/
structure PendingPeriod where
  period : Nat
  notify : Option Byte
  deriving DecidableEq, Repr

/-- Timebase record (Table 7) with its prescaler (R1). -/
structure Timebase where
  state         : TbState
  divider       : Nat
  period        : Nat
  pendingPeriod : Option PendingPeriod
  counter       : Nat
  slot          : BitVec 4
  periodCount   : BitVec 32
  stretch       : Bool
  /-- reference clock periods since the last tick (R1) -/
  prescaler     : Nat
  deriving DecidableEq, Repr

/-- Table 12; the prescaler's value while held is log entry 16. -/
def Timebase.reset : Timebase where
  state := .halted
  divider := 1
  period := 1024
  pendingPeriod := none
  counter := 0
  slot := 0
  periodCount := 0
  stretch := false
  prescaler := 0

/-! ## Segments and channels (chapters 2 and 3) -/

/-- Segment record: a kind with the fields Table 13 gives that kind; an absent field has no place (R20). -/
inductive Segment where
  | set (level : Nat)
  | ramp (target periods : Nat)
  | hold (periods : Nat)
  | sync (point : Fin 8)
  | note (tag : Byte)
  deriving DecidableEq, Repr

/-- The runtime fields of a channel's head record (R22); on any other record they are clear. -/
structure HeadRun where
  /-- step counter k -/
  k        : Nat
  /-- latched start level L0 -/
  start    : Nat
  released : Bool
  deriving DecidableEq, Repr

/-- Runtime fields clear (R22). -/
def HeadRun.clear : HeadRun where
  k := 0
  start := 0
  released := false

inductive ChState where
  | idle | armed | running | waiting | paused | faulted
  deriving DecidableEq, Repr

inductive Mode where
  | oneShot | cyclic
  deriving DecidableEq, Repr

inductive Control where
  | none | pause | resume
  deriving DecidableEq, Repr

/-- A level waiting for a boundary (R53). -/
structure PendingLevel where
  level  : Nat
  notify : Option Byte
  deriving DecidableEq, Repr

/-- A pending replacement list (R30). -/
structure Replacement where
  segments : List Segment
  notify   : Option Byte
  deriving DecidableEq, Repr

/-- Channel record (Table 18) with the lists and the quota the pool holds for it (R24, R25). -/
structure Channel where
  state          : ChState
  tb             : Fin 4
  mode           : Mode
  /-- safe level; `true` is HIGH -/
  safe           : Bool
  level          : Nat
  /-- latched duty, whole ticks I -/
  dutyI          : Nat
  /-- latched duty, sixteenths F -/
  dutyF          : Nat
  pendingLevel   : Option PendingLevel
  pendingControl : Control
  stamp          : BitVec 32
  forced         : Bool
  locked         : Bool
  /-- queue, head first (R24) -/
  queue          : List Segment
  /-- the head's runtime fields (R22) -/
  run            : HeadRun
  replacement    : Option Replacement
  quota          : Nat
  deriving DecidableEq, Repr

/-- Tables 15 and 21. -/
def Channel.reset : Channel where
  state := .idle
  tb := 0
  mode := .oneShot
  safe := false
  level := 0
  dutyI := 0
  dutyF := 0
  pendingLevel := none
  pendingControl := .none
  stamp := 0
  forced := false
  locked := false
  queue := []
  run := .clear
  replacement := none
  quota := 32

/-! ## Rendezvous points (chapter 4) -/

/-- Rendezvous point record (Table 25). -/
structure Point where
  members    : ChSet
  arrived    : ChSet
  generation : BitVec 8
  timeout    : Nat
  /-- gathering timer: elapsed millisecond ticks while it runs -/
  timer      : Option Nat
  deriving DecidableEq, Repr

/-- Table 26. -/
def Point.reset : Point where
  members := 0
  arrived := 0
  generation := 0
  timeout := 0
  timer := none

/-! ## Complementary pairs (chapter 5) -/

/-- Pair record (Table 29); `true` is high. -/
structure Pair where
  enabled  : Bool
  deadTime : Nat
  a        : Bool
  b        : Bool
  riseA    : Option Nat
  riseB    : Option Nat
  deriving DecidableEq, Repr

/-- Table 32. -/
def Pair.reset : Pair where
  enabled := false
  deadTime := 0
  a := false
  b := false
  riseA := none
  riseB := none

/-! ## Output router (chapter 6) -/

/-- Route entry (Table 33). -/
structure Route where
  enabled  : Bool
  source   : Fin 16
  pin      : Fin 20
  priority : Fin 4
  invert   : Bool
  deriving DecidableEq, Repr

/-- Table 36. -/
def Route.reset : Route where
  enabled := false
  source := 0
  pin := 0
  priority := 0
  invert := false

/-- An idle state or a driven value of a pin (R89, R95). -/
inductive Drive where
  | low | high | float
  deriving DecidableEq, Repr

/-! ## Fault monitor (chapter 7) -/

inductive Action where
  | none | forceSafe | stop
  deriving DecidableEq, Repr

inductive Polarity where
  | activeLow | activeHigh
  deriving DecidableEq, Repr

/-- The fields FLT0 and FLT1 alone have (R98). -/
structure FltInput where
  polarity : Polarity
  filter   : Nat
  run      : Nat
  deriving DecidableEq, Repr

/-- Fault source record (Table 37); `input` is absent for SILENCE and SPEED. -/
structure FaultSource where
  action : Action
  chans  : ChSet
  input  : Option FltInput
  active : Bool
  latched : Bool
  deriving DecidableEq, Repr

/-- The source SILENCE by its number (Table 59). -/
def silence : Fin 4 := 2

/-- The source SPEED by its number (Table 59). -/
def speed : Fin 4 := 3

/-- Table 39, the column of FLT0 and FLT1. -/
def FaultSource.resetFlt : FaultSource where
  action := .none
  chans := 0
  input := some { polarity := .activeLow, filter := 4, run := 0 }
  active := false
  latched := false

/-- Table 39, the columns of SILENCE and SPEED. -/
def FaultSource.resetOther : FaultSource where
  action := .none
  chans := 0
  input := none
  active := false
  latched := false

/-! ## Speed monitor (chapter 8) -/

inductive UnitState where
  | off | firstWindow | measuring
  deriving DecidableEq, Repr

inductive Edge where
  | rising | falling | both
  deriving DecidableEq, Repr

inductive Direction where
  | low | high
  deriving DecidableEq, Repr

/-- Speed unit record (Table 41). -/
structure SpeedUnit where
  state         : UnitState
  edge          : Edge
  window        : Nat
  /-- window timer: elapsed millisecond ticks while it runs -/
  timer         : Option Nat
  previous      : Option Bool
  edges         : Nat
  last          : Nat
  minCount      : Nat
  maxCount      : Nat
  inRange       : Bool
  streak        : Nat
  /-- K -/
  limit         : Nat
  linked        : Bool
  limitReported : Bool
  deriving DecidableEq, Repr

/-- Table 42. -/
def SpeedUnit.reset : SpeedUnit where
  state := .off
  edge := .rising
  window := 100
  timer := none
  previous := none
  edges := 0
  last := 0
  minCount := 0
  maxCount := 65535
  inRange := false
  streak := 0
  limit := 3
  linked := false
  limitReported := false

/-! ## Reports (chapter 11) -/

inductive ResetCause where
  | powerOn | pin | soft
  deriving DecidableEq, Repr

/-- The request type and target of an APPLIED or SUPERSEDED report (Table 54). -/
inductive Deferred where
  | tbPeriod (tb : Fin 4)
  | chLevel (c : Fin 16)
  | segReplace (c : Fin 16)
  deriving DecidableEq, Repr

/-- Report kinds with their fields (Table 54). -/
inductive Report where
  | restarted (cause : ResetCause)
  | programEnd (c : Fin 16)
  | note (c : Fin 16) (tag : Byte) (count : BitVec 32)
  | applied (seq : Byte) (item : Deferred)
  | superseded (seq : Byte) (item : Deferred)
  | syncRelease (p : Fin 8) (generation : BitVec 8) (members : ChSet)
  | syncTimeout (p : Fin 8) (generation : BitVec 8) (arrived missing : ChSet)
  | syncSkipped (c : Fin 16) (p : Fin 8)
  | periodStretched (tb : Fin 4) (counter period : Nat)
  | faultRaised (f : Fin 4) (chans : ChSet) (action : Action)
  | faultCleared (f : Fin 4)
  | speedLimit (u : Fin 4) (count : Nat) (direction : Direction)
  | speedOk (u : Fin 4) (count : Nat)
  | overflow (dropped : Nat)
  deriving DecidableEq, Repr

/-- Report record (R148). -/
structure Record where
  number : Byte
  report : Report
  sent   : Bool
  deriving DecidableEq, Repr

/-- The report queue, oldest record first (R148), with the credit window W (R151). -/
structure ReportQueue where
  records : List Record
  next    : Byte
  window  : Nat
  deriving DecidableEq, Repr

/-- Table 55: RESTARTED alone, unsent, with number 0; W is 4. -/
def ReportQueue.reset (cause : ResetCause) : ReportQueue where
  records := [{ number := 0, report := .restarted cause, sent := false }]
  next := 1
  window := 4

/-! ## Requests and responses (chapter 10) -/

/-- Status codes (Table 50). -/
inductive Status where
  | ok | pending | badType | badLength | badArg | locked | state | quota | notMember | faultActive
  deriving DecidableEq, Repr

/-- What is tied to the transmit completion of a response (R129, R140): nothing, the link's pending rate, or the
soft reset. -/
inductive Tied where
  | none | rate | softReset
  deriving DecidableEq, Repr

/-- A response record (R129, R140). -/
structure Response where
  seq      : Byte
  type     : Byte
  status   : Status
  replayed : Bool
  dropped  : Bool
  payload  : List Byte
  tied     : Tied
  deriving DecidableEq, Repr

/-- The entry of the replay memory (R141). -/
structure ReplayEntry where
  seq      : Byte
  crc      : BitVec 16
  response : Response
  deriving DecidableEq, Repr

/-! ## The message link (chapter 9) -/

/-- Link rates (Table 44). -/
inductive Rate where
  | b115200 | b230400 | b460800 | b921600
  deriving DecidableEq, Repr

/-- A CRC-valid frame in the inbound request buffer (R128). -/
structure Frame where
  seq     : Byte
  type    : Byte
  payload : List Byte
  crc     : BitVec 16
  deriving DecidableEq, Repr

/-- Receiver state with its byte buffer (R123): LEN, the body bytes so far, the high CRC byte. -/
inductive Receiver where
  | hunt
  | length
  | body (len : Byte) (bytes : List Byte)
  | check (len : Byte) (bytes : List Byte) (high : Option Byte)
  deriving DecidableEq, Repr

/-- A character being received (R122): its age in reference periods, and the samples of its start bit and its data bits
taken so far, in that order. The sample of its stop bit is the event that ends it, and is not kept. -/
structure RxChar where
  age  : Nat
  bits : List Bool
  deriving DecidableEq, Repr

/-- The kind of a frame in flight (R130). -/
inductive FrameKind where
  | response (tied : Tied)
  | report
  deriving DecidableEq, Repr

/-- A frame in flight: its kind and all its bytes, SYNC to CRC (R130). -/
structure TxFrame where
  kind  : FrameKind
  bytes : List Byte
  deriving DecidableEq, Repr

/-- The transmitter (R130, R135): IDLE, SENDING, or ending the last character of an aborted frame. `age` counts
reference periods since the frame's first start bit. -/
inductive Transmitter where
  | idle
  | sending (frame : TxFrame) (rate : Rate) (age : Nat)
  | aborted (frame : TxFrame) (rate : Rate) (age : Nat)
  deriving DecidableEq, Repr

/-- Link state (Table 47) with the level of RXD. -/
structure Link where
  rate          : Rate
  /-- the pending rate; the response it is tied to carries `Tied.rate` (R132) -/
  pendingRate   : Option Rate
  receiver      : Receiver
  interByte     : Option Nat
  rxChar        : Option RxChar
  /-- level of the line RXD; `true` is high -/
  rxd           : Bool
  breakCount    : Nat
  inbound       : List Frame
  holding       : List Response
  tx            : Transmitter
  crcErrors     : Nat
  framingErrors : Nat
  timeouts      : Nat
  droppedFrames : Nat
  droppedMark   : Bool
  silenceLimit  : Nat
  silenceTimer  : Option Nat
  deriving DecidableEq, Repr

/-- Table 47. RXD is an outside line: high is log entry 8. -/
def Link.reset : Link where
  rate := .b115200
  pendingRate := none
  receiver := .hunt
  interByte := none
  rxChar := none
  rxd := true
  breakCount := 0
  inbound := []
  holding := []
  tx := .idle
  crcErrors := 0
  framingErrors := 0
  timeouts := 0
  droppedFrames := 0
  droppedMark := false
  silenceLimit := 0
  silenceTimer := none

/-! ## The whole part -/

/-- The timers that count millisecond ticks (R2). -/
inductive MsTimer where
  | gather (p : Fin 8)
  | window (u : Fin 4)
  | silence
  | interByte
  | breakDetector
  deriving DecidableEq, Repr

/-- No event of the part ends a run: every request is answered (R129, Law 9) and "a channel is not faulted by any
runtime condition" (section 3.9.3). So there is no fault to raise. -/
inductive Fault where
  deriving DecidableEq, Repr

/-- Why a command has no meaning. -/
inductive Refusal where
  /-- The model has no meaning yet for the command: raised by an arm of `exec`; stopping there is the cautious side
  (no false claim follows from it). No arm raises it. -/
  | notModelled (mnemonic : String)
  deriving DecidableEq, Repr

structure State where
  tbs     : Vector Timebase 4
  chans   : Vector Channel 16
  /-- free records of the segment pool; the records on the free list cannot be told apart (R23; log entry 17) -/
  free    : Nat
  points  : Vector Point 8
  pairs   : Vector Pair 8
  routes  : Vector Route 24
  idles   : Vector Drive 20
  faults  : Vector FaultSource 4
  units   : Vector SpeedUnit 4
  link    : Link
  replay  : Option ReplayEntry
  reports : ReportQueue
  /-- reference periods since the last millisecond tick (R2) -/
  msPhase : Nat
  /-- reference periods since the last input sample (R99) -/
  samplePhase : Nat
  /-- levels of the sampled input lines; outside lines (log entry 8) -/
  inputs  : InputLines
  /-- RST_N is held low (section 6.6) -/
  held    : Bool
  /-- the model's own: timers whose part of the millisecond tick now due was taken by their own row (log entry 4) -/
  msDone  : List MsTimer
  /-- the model's own: how many free orders have been drawn from `Config.freeOrder` (log entry 1) -/
  choice  : Nat
  /-- commands waiting, the first to be taken at the front -/
  pending : List Instr
  deriving DecidableEq, Repr

/-- The machine right after power-on reset, every field at its table's value; the arbiter's choice of RESTARTED,
which R155 lets follow at once, is the first thing the next event does (log entry 11). -/
def State.reset : State where
  tbs := Vector.replicate 4 .reset
  chans := Vector.replicate 16 .reset
  free := Config.poolSize
  points := Vector.replicate 8 .reset
  pairs := Vector.replicate 8 .reset
  routes := Vector.replicate 24 .reset
  idles := Vector.replicate 20 .float
  faults := #v[.resetFlt, .resetFlt, .resetOther, .resetOther]
  units := Vector.replicate 4 .reset
  link := .reset
  replay := none
  reports := .reset .powerOn
  msPhase := 0
  samplePhase := 0
  inputs := { flt := Vector.replicate 2 true, tach := Vector.replicate 4 false }
  held := false
  msDone := []
  choice := 0
  pending := []

end Sys2Proof.Machine
end

