-- ==== Sys2Proof/Machine/Ops.lean ====
section
/-! DEFINITION. The shared operations over State: banks, the order of simultaneous parts, the report queue's entry, the segment pool, the reset values. -/

namespace Sys2Proof.Machine

/-! ## Banks -/

def State.modTb (t : Fin 4) (f : Timebase → Timebase) (s : State) : State :=
  { s with tbs := s.tbs.set t (f s.tbs[t]) }

def State.modChan (c : Fin 16) (f : Channel → Channel) (s : State) : State :=
  { s with chans := s.chans.set c (f s.chans[c]) }

def State.modPoint (p : Fin 8) (f : Point → Point) (s : State) : State :=
  { s with points := s.points.set p (f s.points[p]) }

def State.modPair (k : Fin 8) (f : Pair → Pair) (s : State) : State :=
  { s with pairs := s.pairs.set k (f s.pairs[k]) }

def State.modFault (i : Fin 4) (f : FaultSource → FaultSource) (s : State) : State :=
  { s with faults := s.faults.set i (f s.faults[i]) }

def State.modUnit (u : Fin 4) (f : SpeedUnit → SpeedUnit) (s : State) : State :=
  { s with units := s.units.set u (f s.units[u]) }

def State.modLink (f : Link → Link) (s : State) : State :=
  { s with link := f s.link }

/-- Every timebase, each by its number, at one event. -/
def State.mapTbs (f : Fin 4 → Timebase → Timebase) (s : State) : State :=
  { s with tbs := Vector.ofFn fun t => f t s.tbs[t] }

/-- Every channel, each by its number, at one event. -/
def State.mapChans (f : Fin 16 → Channel → Channel) (s : State) : State :=
  { s with chans := Vector.ofFn fun c => f c s.chans[c] }

/-- Every point, each by its number, at one event. -/
def State.mapPoints (f : Fin 8 → Point → Point) (s : State) : State :=
  { s with points := Vector.ofFn fun p => f p s.points[p] }

/-- Every pair, each by its number, at one event. -/
def State.mapPairs (f : Fin 8 → Pair → Pair) (s : State) : State :=
  { s with pairs := Vector.ofFn fun k => f k s.pairs[k] }

/-- Every speed unit, each by its number, at one event. -/
def State.mapUnits (f : Fin 4 → SpeedUnit → SpeedUnit) (s : State) : State :=
  { s with units := Vector.ofFn fun u => f u s.units[u] }

/-! ## Pair numbering: PAIRk joins CH2k and CH2k+1 (Table 1) -/

def pairOf (c : Fin 16) : Fin 8 := ⟨c.val / 2, by omega⟩

def evenOf (k : Fin 8) : Fin 16 := ⟨2 * k.val, by omega⟩

def oddOf (k : Fin 8) : Fin 16 := ⟨2 * k.val + 1, by omega⟩

def isEven (c : Fin 16) : Bool := c.val % 2 == 0

/-! ## Sequences of parts -/

/-- The parts of one event, one after another. -/
def forEach {α : Type} (xs : List α) (f : α → State → State) (s : State) : State :=
  xs.foldl (fun s x => f x s) s

/-- An order of `xs` read from a number: at each place one of the elements left is picked by remainder, and the rest
of the number orders the rest. Every order of `xs` is read from some number. -/
def orderFrom {α : Type} : Nat → Nat → List α → List α
  | 0, _, xs => xs
  | n + 1, code, xs =>
    match xs[code % xs.length]? with
    | none => xs
    | some x => x :: orderFrom n (code / xs.length) (xs.eraseIdx (code % xs.length))

/-- Parts that the spec lets come in either order, in a free order (R5, R6, R149; log entry 1). A single part has one
order, and none is drawn for it. -/
def State.inAnyOrder {α : Type} (xs : List α) (s : State) : List α × State :=
  match xs with
  | [] => ([], s)
  | [x] => ([x], s)
  | _ => (orderFrom xs.length (Config.freeOrder s.choice) xs, { s with choice := s.choice + 1 })

/-- Take parts one after another in either order. -/
def forEachInAnyOrder {α : Type} (xs : List α) (f : α → State → State) (s : State) : State :=
  let r := s.inAnyOrder xs
  forEach r.1 f r.2

/-! ## Entry of a report into the queue (R149, R150) -/

/-- The dropped count of an OVERFLOW record, one higher, saturating at 65535 (R150). -/
def Record.countDropped (r : Record) : Record :=
  match r.report with
  | .overflow n => { r with report := .overflow (min 65535 (n + 1)) }
  | _ => r

def Record.isOverflow (r : Record) : Bool :=
  match r.report with
  | .overflow _ => true
  | _ => false

/-- A new record at the tail, with the next number and its sent flag clear (R148). -/
def ReportQueue.append (report : Report) (q : ReportQueue) : ReportQueue :=
  { q with records := q.records ++ [{ number := q.next, report := report, sent := false }]
           next := q.next + 1 }

/-- A report generated at this event is offered to the queue (R149, R150). A queue of 32 whose newest record is not
OVERFLOW does not occur (Law 7); there the report is discarded. -/
def ReportQueue.offer (report : Report) (q : ReportQueue) : ReportQueue :=
  if q.records.length ≤ 30 then q.append report
  else
    match q.records.getLast? with
    | none => q
    | some newest =>
      if newest.isOverflow then { q with records := q.records.dropLast ++ [newest.countDropped] }
      else if q.records.length = 31 then q.append (.overflow 1)
      else q

def State.offer (report : Report) (s : State) : State :=
  { s with reports := s.reports.offer report }

/-- A report queued only for a pending item that carried the notify mark. -/
def State.offerIf (notify : Option Byte) (report : Byte → Report) (s : State) : State :=
  match notify with
  | some seq => s.offer (report seq)
  | none => s

/-- The number of sent and unacknowledged records (R151). -/
def ReportQueue.sentCount (q : ReportQueue) : Nat := (q.records.filter fun r => r.sent).length

/-- Every sent flag cleared (R153, R154). -/
def ReportQueue.unsendAll (q : ReportQueue) : ReportQueue :=
  { q with records := q.records.map fun r => { r with sent := false } }

/-! ## The segment pool (chapter 2) -/

/-- Records a channel holds: its queue and its pending replacement list (R25). -/
def Channel.holds (ch : Channel) : Nat :=
  ch.queue.length + match ch.replacement with
    | some r => r.segments.length
    | none => 0

/-- Take: records from the free list to the tail of a queue, in the order carried (R28). -/
def State.takeToQueue (c : Fin 16) (segs : List Segment) (s : State) : State :=
  { s.modChan c (fun ch => { ch with queue := ch.queue ++ segs }) with free := s.free - segs.length }

/-- Take: records from the free list to a new pending replacement list (R30). -/
def State.takeToReplacement (c : Fin 16) (segs : List Segment) (notify : Option Byte) (s : State) : State :=
  { s.modChan c (fun ch => { ch with replacement := some { segments := segs, notify := notify } }) with
    free := s.free - segs.length }

/-- Free a channel's queue, its head's runtime fields with it (R33). -/
def State.freeQueue (c : Fin 16) (s : State) : State :=
  { s.modChan c (fun ch => { ch with queue := [], run := .clear }) with
    free := s.free + s.chans[c].queue.length }

/-- Free a channel's pending replacement list, without a report (R33). -/
def State.freeReplacement (c : Fin 16) (s : State) : State :=
  match s.chans[c].replacement with
  | none => s
  | some r =>
    { s.modChan c (fun ch => { ch with replacement := none }) with free := s.free + r.segments.length }

/-- A pending replacement list freed before it was applied, with SUPERSEDED if it carried the notify mark (R30, R57). -/
def State.supersedeReplacement (c : Fin 16) (s : State) : State :=
  match s.chans[c].replacement with
  | none => s
  | some r => (s.freeReplacement c).offerIf r.notify fun seq => .superseded seq (.segReplace c)

/-- Promote: the old queue freed, the pending list becomes the queue with its head not started (R33). -/
def State.promote (c : Fin 16) (s : State) : State :=
  match s.chans[c].replacement with
  | none => s
  | some r =>
    { s.modChan c (fun ch => { ch with queue := r.segments, run := .clear, replacement := none }) with
      free := s.free + s.chans[c].queue.length }

/-- A completed head leaves the head position: retired in ONE_SHOT mode (R31), rotated in CYCLIC mode (R32). -/
def State.completeHead (c : Fin 16) (s : State) : State :=
  match s.chans[c].queue with
  | [] => s
  | head :: rest =>
    match s.chans[c].mode with
    | .oneShot =>
      { s.modChan c (fun ch => { ch with queue := rest, run := .clear }) with free := s.free + 1 }
    | .cyclic => s.modChan c fun ch => { ch with queue := rest ++ [head], run := .clear }

/-! ## Resets -/

/-- Every block at its reset values (R19, R35, R62, R76, R87, R97, R111, R121, R136, R142, R155). The levels of the
outside lines, the count of orders drawn and the commands waiting are no state of a block and stay. DESIGN CHOICE (log
entry 29): the break count and the millisecond count start at 0 here (R134, R2), so a link break due at the same clock
edge as a soft reset taken first does not occur: no frame is aborted and the break count is not held at 20. -/
def State.afterReset (cause : ResetCause) (s : State) : State :=
  { State.reset with
    link := { Link.reset with rxd := s.link.rxd }
    reports := .reset cause
    inputs := s.inputs
    choice := s.choice
    pending := s.pending }

/-- The part while RST_N is held low: every block at its reset values, the report queue still empty, since RESTARTED
enters at the rising edge (section 6.6, R155; log entry 12). -/
def State.heldInReset (s : State) : State :=
  { s.afterReset .pin with
    reports := { records := [], next := 0, window := 4 }
    held := true }

end Sys2Proof.Machine
end

