-- ==== Sys2Proof/Machine/Flags.lean ====
section
/-! DEFINITION. What the part computes from its state without storing it: widths and signals, pin winners and values, coverage, assertion, what is due. -/

namespace Sys2Proof.Machine

/-! ## From level to pulse (section 1.7) -/

/-- The four bits of a dither slot in reverse order (R16). -/
def rev4 (slot : BitVec 4) : Nat :=
  8 * (slot.getLsbD 0).toNat + 4 * (slot.getLsbD 1).toNat + 2 * (slot.getLsbD 2).toNat + (slot.getLsbD 3).toNat

/-- Q: the duty in sixteenths of a tick (R15). -/
def dutySixteenths (level period : Nat) : Nat := level * period / 256

/-- The width W a channel draws in a period of a dither slot (R16). -/
def Channel.width (ch : Channel) (slot : BitVec 4) : Nat :=
  if rev4 slot < ch.dutyF then ch.dutyI + 1 else ch.dutyI

/-- The basic signal a channel draws against a timebase record: high while the counter is below W on a RUNNING
timebase (R17), low on a HALTED one (R18). -/
def Channel.signalOn (ch : Channel) (tb : Timebase) : Bool :=
  match tb.state with
  | .running => decide (tb.counter < ch.width tb.slot)
  | .halted => false

/-- A channel's basic signal x (R17, R18). -/
def State.basicSignal (s : State) (c : Fin 16) : Bool := s.chans[c].signalOn s.tbs[s.chans[c].tb]

/-- The timebase of a channel is RUNNING. -/
def State.onRunningTb (s : State) (c : Fin 16) : Bool := decide (s.tbs[s.chans[c].tb].state = .running)

/-- The source signal of a channel that belongs to no enabled pair (R92, Table 34). -/
def State.ownSignal (s : State) (c : Fin 16) : Bool :=
  if s.chans[c].forced then s.chans[c].safe else s.basicSignal c

/-- The source signal a route carries from a channel (R85, R91). -/
def State.sourceSignal (s : State) (c : Fin 16) : Bool :=
  let pair := s.pairs[pairOf c]
  if pair.enabled then (if isEven c then pair.a else pair.b) else s.ownSignal c

/-! ## The pin arbiter (R90, R91) -/

/-- The better of a best entry so far and a later entry: a later entry wins only by a higher priority (R90). -/
def betterEntry (s : State) (pin : Fin 20) (best : Option (Fin 24)) (e : Fin 24) : Option (Fin 24) :=
  if s.routes[e].enabled && s.routes[e].pin == pin then
    match best with
    | none => some e
    | some b => if s.routes[b].priority < s.routes[e].priority then some e else some b
  else best

/-- The winning entry of a pin (R90). -/
def State.winner (s : State) (pin : Fin 20) : Option (Fin 24) :=
  (List.finRange 24).foldl (betterEntry s pin) none

def driveOf (high : Bool) : Drive := if high then .high else .low

/-- The driven value of a pin (R91). -/
def State.pinValue (s : State) (pin : Fin 20) : Drive :=
  match s.winner pin with
  | some e => driveOf (s.sourceSignal s.routes[e].source != s.routes[e].invert)
  | none => s.idles[pin]

/-! ## Coverage (R103) -/

/-- The channel whose membership is tested: the even channel of an enabled pair, else the channel itself (R103). -/
def State.testedChannel (s : State) (c : Fin 16) : Fin 16 :=
  if s.pairs[pairOf c].enabled then evenOf (pairOf c) else c

/-- A latched source whose action is FORCE_SAFE or STOP covers a channel (R103). -/
def State.covers (s : State) (f : Fin 4) (c : Fin 16) : Bool :=
  s.faults[f].latched && s.faults[f].action != .none && s.faults[f].chans.has (s.testedChannel c)

/-- Some source covers the channel (R52, R104). -/
def State.covered (s : State) (c : Fin 16) : Bool := (List.finRange 4).any fun f => s.covers f c

/-- Some latched STOP source covers the channel (R107). -/
def State.coveredByStop (s : State) (c : Fin 16) : Bool :=
  (List.finRange 4).any fun f => s.covers f c && s.faults[f].action == .stop

/-- The set of channels a source covers (R109). -/
def State.coveredSet (s : State) (f : Fin 4) : ChSet :=
  (List.finRange 16).foldl (fun m c => if s.covers f c then m.add c else m) 0

/-! ## Speed assertion (R101, R117) -/

def SpeedUnit.asserting (u : SpeedUnit) : Bool :=
  u.linked && u.state == .measuring && decide (u.limit ≤ u.streak)

def State.anyAsserting (s : State) : Bool := (List.finRange 4).any fun u => s.units[u].asserting

/-! ## Millisecond timers (R2) -/

/-- The next millisecond tick is the timer's expiry (R66, R114, R125, R133), or brings the link break (R134). -/
def State.due (s : State) : MsTimer → Bool
  | .gather p => match s.points[p].timer with
    | some e => decide (s.points[p].timeout ≤ e + 1)
    | none => false
  | .window u => match s.units[u].timer with
    | some e => decide (s.units[u].window ≤ e + 1)
    | none => false
  | .silence => match s.link.silenceTimer with
    | some e => decide (s.link.silenceLimit ≤ e + 1)
    | none => false
  | .interByte => match s.link.interByte with
    | some e => decide (Config.interByteLimit ≤ e + 1)
    | none => false
  | .breakDetector => !s.link.rxd && decide (s.link.breakCount + 1 = Config.breakLimit)

/-- The timer's part of the millisecond tick now due has not been taken by its own row (log entry 4). -/
def State.untaken (s : State) (t : MsTimer) : Bool := !s.msDone.contains t

/-! ## Link timing (R122, Table 44) -/

/-- Bit time in reference clock periods (Table 44). -/
def Rate.bitTime : Rate → Nat
  | .b115200 => 278
  | .b230400 => 139
  | .b460800 => 69
  | .b921600 => 35

/-- The rate's value in baud (R158). -/
def Rate.baud : Rate → Nat
  | .b115200 => 115200
  | .b230400 => 230400
  | .b460800 => 460800
  | .b921600 => 921600

/-- Character time in reference clock periods: ten bit times (R122). -/
def Rate.charTime (r : Rate) : Nat := 10 * r.bitTime

/-- The middle of a bit time; `Config.middleUp` says which way that of an odd bit time is rounded (log entry 2). -/
def middleOf (bitTime : Nat) : Nat :=
  match bitTime % 2 with
  | 0 => bitTime / 2
  | _ => bitTime / 2 + (Config.middleUp bitTime).toNat

/-- The age of a received character at which bit `i` is sampled: the middle of its bit time (R122). -/
def sampleAge (r : Rate) (i : Nat) : Nat := r.bitTime * i + middleOf r.bitTime

/-- The ten bits of a character: start bit low, eight data bits least significant first, stop bit high (R122). -/
def charBits (b : Byte) : List Bool := false :: (List.range 8).map b.getLsbD ++ [true]

/-- The level of TXD (R122, R130): the bit of the frame on the line, high when none is. -/
def State.txd (s : State) : Bool :=
  match s.link.tx with
  | .idle => true
  | .sending frame rate age | .aborted frame rate age =>
    match frame.bytes[age / rate.charTime]? with
    | some b => (charBits b).getD (age % rate.charTime / rate.bitTime) true
    | none => true

/-- The age at which a whole frame has been sent (R130). -/
def frameEnd (frame : TxFrame) (rate : Rate) : Nat := rate.charTime * frame.bytes.length

/-- What is left of a frame aborted at an age: the characters up to the one on TXD, which is completed (R135). DESIGN
CHOICE (log entry 32): at the clock edge at which one character ends and the next begins, the character on TXD is the
next, which is sent whole. -/
def TxFrame.cutAt (frame : TxFrame) (rate : Rate) (age : Nat) : TxFrame :=
  { frame with bytes := frame.bytes.take (age / rate.charTime + 1) }

end Sys2Proof.Machine
end

