-- ==== Sys2Proof/Machine/PairLogic.lean ====
section
/-! DEFINITION. The pair logic: signals A and B and their rise delays (section 5.3, R81 to R84). -/

namespace Sys2Proof.Machine

/-- Both signals low and both delays absent: a forced, halted or disabled pair (R77, R80, R84). -/
def Pair.low (p : Pair) : Pair := { p with a := false, b := false, riseA := none, riseB := none }

/-- An edge of x to the value given (R81). -/
def Pair.edge (p : Pair) (x : Bool) : Pair :=
  match x with
  | true =>
    if p.deadTime = 0 then { p with b := false, riseB := none, a := true, riseA := none }
    else { p with b := false, riseB := none, riseA := some 0 }
  | false =>
    if p.deadTime = 0 then { p with a := false, riseA := none, b := true, riseB := none }
    else { p with a := false, riseA := none, riseB := some 0 }

/-- Restart: both low, then x as it stands is handled as an edge (R83). -/
def Pair.restart (p : Pair) (x : Bool) : Pair := p.low.edge x

/-- The rise delay of A, when its count reaches D or has passed it, ends with A high (R82). -/
def Pair.riseAAt (p : Pair) (count : Nat) : Pair :=
  if p.deadTime ≤ count then { p with a := true, riseA := none } else { p with riseA := some count }

/-- The same for B (R82). -/
def Pair.riseBAt (p : Pair) (count : Nat) : Pair :=
  if p.deadTime ≤ count then { p with b := true, riseB := none } else { p with riseB := some count }

/-- A tick that brings no edge: a rise delay present counts it (R82). -/
def Pair.countTick (p : Pair) : Pair :=
  match p.riseA with
  | some n => p.riseAAt (n + 1)
  | none =>
    match p.riseB with
    | some n => p.riseBAt (n + 1)
    | none => p

/-- One tick of the even channel's timebase: an edge of x acts, and a delay it starts counts later ticks only;
without an edge a delay counts the tick (R81, R82). -/
def Pair.tick (p : Pair) (before after : Bool) : Pair :=
  if before = after then p.countTick else p.edge after

/-- A new dead time on an enabled pair: a delay whose count has reached it ends at once (R82). -/
def Pair.setDeadTime (p : Pair) (d : Nat) : Pair :=
  let q := { p with deadTime := d }
  match q.riseA with
  | some n => q.riseAAt n
  | none =>
    match q.riseB with
    | some n => q.riseBAt n
    | none => q

/-- The pair logic of a pair acts: enabled, its even channel's timebase RUNNING and its even channel not forced (R81). -/
def State.pairActs (s : State) (k : Fin 8) : Bool :=
  s.pairs[k].enabled && s.onRunningTb (evenOf k) && !s.chans[evenOf k].forced

/-- Restart the pair of an even channel from x as it stands; while forced or halted a restart does nothing (R83). -/
def State.restartPair (k : Fin 8) (s : State) : State :=
  if s.pairActs k then s.modPair k fun p => p.restart (s.basicSignal (evenOf k)) else s

/-- Forcing of a channel reaches its pair: A and B of an enabled pair go low when the even channel is forced (R84). -/
def State.forcePair (c : Fin 16) (s : State) : State :=
  if isEven c && s.pairs[pairOf c].enabled then s.modPair (pairOf c) Pair.low else s

/-- Halting of timebases reaches the enabled pairs whose even channel is bound to one of them (R84). -/
def State.haltPairs (halted : Fin 4 → Bool) (s : State) : State :=
  s.mapPairs fun k p => if p.enabled && halted s.chans[evenOf k].tb then p.low else p

/-- A tick of timebase `t` that is no boundary reaches the pair logic; `old` is the state before the tick (R81, R82). -/
def State.tickPairs (t : Fin 4) (s old : State) : State :=
  s.mapPairs fun k p =>
    if s.pairActs k && s.chans[evenOf k].tb == t then
      p.tick (old.basicSignal (evenOf k)) (s.basicSignal (evenOf k))
    else p

/-- A CH_CONFIG of channel `c` as it reaches an enabled pair whose even channel it is; `old` is the state before the
request (R83, R84). -/
def State.rebindPair (c : Fin 16) (s old : State) : State :=
  let k := pairOf c
  if !(isEven c && s.pairs[k].enabled) || s.chans[c].tb == old.chans[c].tb then s
  else if !s.onRunningTb c then
    (if old.onRunningTb c then s.modPair k Pair.low else s)
  else if !old.onRunningTb c then s.restartPair k
  else if s.chans[c].forced || old.basicSignal c == s.basicSignal c then s
  else s.modPair k fun p => p.edge (s.basicSignal c)

end Sys2Proof.Machine
end

