-- ==== Sys2Proof/Machine/Rendezvous.lean ====
section
/-! DEFINITION. What an arrival, a release, an expiry and a withdrawal do at a rendezvous point (chapter 4) and to the channels concerned (R48, R49). -/

namespace Sys2Proof.Machine

/-- A released channel: its release stamp is the period count of its own timebase, a WAITING channel becomes RUNNING,
and its SYNC head is marked released (R49). -/
def Channel.release (ch : Channel) (count : BitVec 32) : Channel :=
  { ch with
    state := if ch.state = .waiting then .running else ch.state
    stamp := count
    run := { ch.run with released := true } }

/-- Every channel of a set is released at one event (R67, R69). -/
def State.releaseChannels (set : ChSet) (s : State) : State :=
  s.mapChans fun c ch => if set.has c then ch.release s.tbs[ch.tb].periodCount else ch

/-- What a point keeps of a release: the generation advances, the arrived set is cleared, the timer is stopped
(R67, R69). -/
def Point.afterRelease (p : Point) : Point :=
  { p with generation := p.generation + 1, arrived := 0, timer := none }

/-- Complete release (R67): every member is released, SYNC_RELEASE carries the new generation. -/
def State.completeRelease (p : Fin 8) (s : State) : State :=
  let s' := (s.releaseChannels s.points[p].members).modPoint p Point.afterRelease
  s'.offer (.syncRelease p s'.points[p].generation s'.points[p].members)

/-- An arrival that does not complete the set: a first arrival starts the timer unless the timeout is zero; a later
one joins (R65). -/
def Point.join (p : Point) (c : Fin 16) : Point :=
  { p with
    arrived := p.arrived.add c
    timer := if p.arrived = 0 then (if p.timeout = 0 then none else some 0) else p.timer }

/-- An arrival of a member at a point (R48, R65). -/
def State.arrive (c : Fin 16) (p : Fin 8) (s : State) : State :=
  if s.points[p].arrived.add c = s.points[p].members then s.completeRelease p
  else (s.modPoint p fun pt => pt.join c).modChan c fun ch => { ch with state := .waiting }

/-- A channel removed from an arrived set; the timer stops when the set becomes empty (R71). -/
def Point.leave (p : Point) (c : Fin 16) : Point :=
  { p with
    arrived := p.arrived.drop c
    timer := if p.arrived.drop c = 0 then none else p.timer }

/-- Withdrawal of a WAITING channel's arrival from the point its head names (R71). -/
def State.withdraw (c : Fin 16) (s : State) : State :=
  match s.chans[c].state, s.chans[c].queue with
  | .waiting, .sync p :: _ => s.modPoint p fun pt => pt.leave c
  | _, _ => s

/-- Expiry of a gathering timer (R69): every arrived channel is released, SYNC_TIMEOUT names the missing ones. -/
def State.expireGathering (p : Fin 8) (s : State) : State :=
  let pt := s.points[p]
  let s' := (s.releaseChannels pt.arrived).modPoint p Point.afterRelease
  s'.offer (.syncTimeout p s'.points[p].generation pt.arrived (pt.members &&& ~~~pt.arrived))

end Sys2Proof.Machine
end

