-- ==== Sys2Proof/Machine/Operands.lean ====
section
/-! DEFINITION. The operand forms of requests: fields of a payload, each read with the range its rule gives (R158 to R161). -/

namespace Sys2Proof.Machine

/-! ## Numbers, least significant byte first (R158) -/

/-- One byte of a payload. -/
def byteAt (p : List Byte) (i : Nat) : Byte := p.getD i 0

def u8 (p : List Byte) (i : Nat) : Nat := (byteAt p i).toNat

def u16 (p : List Byte) (i : Nat) : Nat := u8 p i + 256 * u8 p (i + 1)

def u32 (p : List Byte) (i : Nat) : Nat := u16 p i + 65536 * u16 p (i + 2)

/-! ## Fields with a range; none is out of range -/

/-- An element number below `n` (R158). -/
def element? (n v : Nat) : Option (Fin n) := if h : v < n then some ⟨v, h⟩ else none

/-- A number from `lo` to `hi`. -/
def within? (lo hi v : Nat) : Option Nat := if lo ≤ v ∧ v ≤ hi then some v else none

/-- A mark or flag: 0 is clear, 1 is set (R158). -/
def mark? (v : Nat) : Option Bool :=
  match v with
  | 0 => some false
  | 1 => some true
  | _ => none

/-- One of the eight dividers (R8). -/
def divider? (v : Nat) : Option Nat := if v ∈ [1, 2, 4, 8, 16, 32, 64, 128] then some v else none

/-- A period, 16 to 4096 (R8, R9). -/
def period? (v : Nat) : Option Nat := within? 16 4096 v

/-- A level, 0 to 4096 (R53). -/
def level? (v : Nat) : Option Nat := within? 0 4096 v

/-- A channel set (R158). -/
def chSetAt (p : List Byte) (i : Nat) : ChSet := BitVec.ofNat 16 (u16 p i)

/-- A set of timebases that names at least one and none beyond TB3 (R6, R7, R158). -/
def tbSet? (v : Nat) : Option (List (Fin 4)) :=
  if v = 0 ∨ 16 ≤ v then none else some ((List.finRange 4).filter fun t => v.testBit t.val)

/-! ## Enumerations (Table 59) -/

inductive Timing where
  | boundary | now
  deriving DecidableEq, Repr

def timing? (v : Nat) : Option Timing :=
  match v with
  | 0 => some .boundary
  | 1 => some .now
  | _ => none

def mode? (v : Nat) : Option Mode :=
  match v with
  | 0 => some .oneShot
  | 1 => some .cyclic
  | _ => none

/-- A safe level: 0 LOW, 1 HIGH. -/
def safeLevel? (v : Nat) : Option Bool :=
  match v with
  | 0 => some false
  | 1 => some true
  | _ => none

def drive? (v : Nat) : Option Drive :=
  match v with
  | 0 => some .low
  | 1 => some .high
  | 2 => some .float
  | _ => none

def action? (v : Nat) : Option Action :=
  match v with
  | 0 => some .none
  | 1 => some .forceSafe
  | 2 => some .stop
  | _ => none

def polarity? (v : Nat) : Option Polarity :=
  match v with
  | 0 => some .activeLow
  | 1 => some .activeHigh
  | _ => none

def edge? (v : Nat) : Option Edge :=
  match v with
  | 0 => some .rising
  | 1 => some .falling
  | 2 => some .both
  | _ => none

/-- A rate, carried as its value in baud (R145, R158). -/
def rate? (v : Nat) : Option Rate :=
  if v = 115200 then some .b115200
  else if v = 230400 then some .b230400
  else if v = 460800 then some .b460800
  else if v = 921600 then some .b921600
  else none

/-- A host-silence limit: 0, or 10 to 10000 (R145). -/
def silenceLimit? (v : Nat) : Option Nat := if v = 0 then some 0 else within? 10 10000 v

/-- A value of a SET_LINK change: absent with its mark clear and every byte zero, else read by `f` (R145). -/
def change? {α : Type} (mark value : Nat) (f : Nat → Option α) : Option (Option α) :=
  match mark? mark with
  | none => none
  | some false => if value = 0 then some none else none
  | some true => (f value).map some

/-- The input fields of FAULT_CONFIG: polarity and filter of FLT0 and FLT1, with the sample run at 0; for SILENCE and
SPEED both bytes must be zero (R108). -/
def fltInput? (source : Fin 4) (polarity filter : Nat) : Option (Option FltInput) :=
  if source.val < 2 then
    match polarity? polarity, within? 1 16 filter with
    | some pol, some n => some (some { polarity := pol, filter := n, run := 0 })
    | _, _ => none
  else if polarity = 0 ∧ filter = 0 then some none
  else none

/-! ## Segments (R21, Table 60) -/

/-- One segment encoding, valid in form: kind, level, periods and the byte of point or tag (R21, Table 13). -/
def segment? (kind level periods last : Nat) : Option Segment :=
  match kind with
  | 1 => if level ≤ 4096 ∧ periods = 0 ∧ last = 0 then some (.set level) else none
  | 2 => if level ≤ 4096 ∧ 1 ≤ periods ∧ last = 0 then some (.ramp level periods) else none
  | 3 => if level = 0 ∧ 1 ≤ periods ∧ last = 0 then some (.hold periods) else none
  | 4 => if level = 0 ∧ periods = 0 then (element? 8 last).map .sync else none
  | 5 => if level = 0 ∧ periods = 0 then some (.note (BitVec.ofNat 8 last)) else none
  | _ => none

/-- Whole segment encodings, each valid in form, in the order carried (R21). -/
def segments? : List Byte → Option (List Segment)
  | [] => some []
  | k :: l0 :: l1 :: p0 :: p1 :: x :: rest =>
    match segment? k.toNat (l0.toNat + 256 * l1.toNat) (p0.toNat + 256 * p1.toNat) x.toNat, segments? rest with
    | some seg, some segs => some (seg :: segs)
    | _, _ => none
  | _ :: _ => none

/-- A payload of a fixed part followed by one to sixteen whole segment encodings (R159). -/
def segmentsLengthOk (fixed length : Nat) : Bool :=
  decide (fixed + 6 ≤ length) && decide (length ≤ fixed + 96) && (length - fixed) % 6 == 0

/-- The sixteen quotas of CH_QUOTA (R26). -/
def quotasOf (p : List Byte) : Vector Nat 16 := Vector.ofFn fun c => u16 p (2 * c.val)

end Sys2Proof.Machine
end

