-- ==== Sys2Proof/Machine/Encoding.lean ====
section
/-! DEFINITION. The bytes the part sends: field encodings (R158), response payloads (R160), report payloads (R161), frames and their CRC (R124, R157). -/

namespace Sys2Proof.Machine

/-! ## Numbers, least significant byte first (R158) -/

def le8 (n : Nat) : List Byte := [BitVec.ofNat 8 n]

def le16 (n : Nat) : List Byte := [BitVec.ofNat 8 n, BitVec.ofNat 8 (n / 256)]

def le32 (n : Nat) : List Byte := le16 n ++ le16 (n / 65536)

def flagByte (b : Bool) : List Byte := le8 b.toNat

/-- A presence byte and a two-byte value, zero when absent (R160). -/
def present16 (v : Option Nat) : List Byte := flagByte v.isSome ++ le16 (v.getD 0)

/-- Notify mark and SEQ of a pending item; both zero without the mark (R158, R160). -/
def notifyBytes (n : Option Byte) : List Byte := flagByte n.isSome ++ [n.getD 0]

/-! ## Enumerations (Table 59) -/

def Status.code : Status → Byte
  | .ok => 0
  | .pending => 1
  | .badType => 2
  | .badLength => 3
  | .badArg => 4
  | .locked => 5
  | .state => 6
  | .quota => 7
  | .notMember => 8
  | .faultActive => 9

def ChState.code : ChState → Nat
  | .idle => 0
  | .armed => 1
  | .running => 2
  | .waiting => 3
  | .paused => 4
  | .faulted => 5

def TbState.code : TbState → Nat
  | .halted => 0
  | .running => 1

def Mode.code : Mode → Nat
  | .oneShot => 0
  | .cyclic => 1

def Control.code : Control → Nat
  | .none => 0
  | .pause => 1
  | .resume => 2

def Drive.code : Drive → Nat
  | .low => 0
  | .high => 1
  | .float => 2

def Action.code : Action → Nat
  | .none => 0
  | .forceSafe => 1
  | .stop => 2

def Polarity.code : Polarity → Nat
  | .activeLow => 0
  | .activeHigh => 1

def UnitState.code : UnitState → Nat
  | .off => 0
  | .firstWindow => 1
  | .measuring => 2

def Edge.code : Edge → Nat
  | .rising => 0
  | .falling => 1
  | .both => 2

def Direction.code : Direction → Nat
  | .low => 0
  | .high => 1

def ResetCause.code : ResetCause → Nat
  | .powerOn => 0
  | .pin => 1
  | .soft => 2

/-! ## Segments (Table 60) -/

def Segment.bytes : Segment → List Byte
  | .set level => le8 1 ++ le16 level ++ le16 0 ++ le8 0
  | .ramp target periods => le8 2 ++ le16 target ++ le16 periods ++ le8 0
  | .hold periods => le8 3 ++ le16 0 ++ le16 periods ++ le8 0
  | .sync point => le8 4 ++ le16 0 ++ le16 0 ++ le8 point.val
  | .note tag => le8 5 ++ le16 0 ++ le16 0 ++ [tag]

/-- The head record of a queue, six zero bytes when it is empty (R159). -/
def headBytes : List Segment → List Byte
  | [] => List.replicate 6 0
  | head :: _ => head.bytes

/-! ## Response payloads (Tables 62 to 64) -/

/-- Table 52. -/
def infoPayload : List Byte := le8 0x54 ++ le16 0x1620 ++ le8 2 ++ le8 16 ++ le8 4 ++ le8 8 ++ le8 24 ++ le8 20 ++ le8 4 ++ le16 512

/-- The pending rate with its presence (R144, R145). -/
def pendingRateBytes (r : Option Rate) : List Byte := flagByte r.isSome ++ le32 ((r.map Rate.baud).getD 0)

/-- Table 63. -/
def State.statusPayload (s : State) : List Byte :=
  le8 s.link.crcErrors ++ le8 s.link.framingErrors ++ le8 s.link.timeouts ++ le8 s.link.droppedFrames
    ++ le32 s.link.rate.baud ++ pendingRateBytes s.link.pendingRate
    ++ le16 s.link.silenceLimit ++ present16 s.link.silenceTimer
    ++ le8 s.reports.window ++ le8 s.reports.records.length ++ le8 s.reports.sentCount

/-- SET_LINK response (R145, Table 62). -/
def State.linkPayload (s : State) : List Byte :=
  le32 s.link.rate.baud ++ pendingRateBytes s.link.pendingRate ++ le8 s.reports.window ++ le16 s.link.silenceLimit

/-- Pending period: presence, value, notify mark, SEQ (R14). -/
def pendingPeriodBytes : Option PendingPeriod → List Byte
  | none => present16 none ++ notifyBytes none
  | some p => present16 (some p.period) ++ notifyBytes p.notify

/-- TB_QUERY response (R14, Table 62). -/
def Timebase.payload (tb : Timebase) : List Byte :=
  le8 tb.state.code ++ le8 tb.divider ++ le16 tb.period ++ pendingPeriodBytes tb.pendingPeriod
    ++ le16 tb.counter ++ le8 tb.slot.toNat ++ le32 tb.periodCount.toNat ++ flagByte tb.stretch

/-- Pending level: presence, value, notify mark, SEQ (R59). -/
def pendingLevelBytes : Option PendingLevel → List Byte
  | none => present16 none ++ notifyBytes none
  | some p => present16 (some p.level) ++ notifyBytes p.notify

/-- Pending replacement: presence, length, notify mark, SEQ (R59). -/
def replacementBytes : Option Replacement → List Byte
  | none => flagByte false ++ le8 0 ++ notifyBytes none
  | some r => flagByte true ++ le8 r.segments.length ++ notifyBytes r.notify

/-- The head's runtime fields; zero with no head (Table 64). -/
def Channel.runBytes (ch : Channel) : List Byte :=
  match ch.queue with
  | [] => le16 0 ++ le16 0 ++ flagByte false
  | _ :: _ => le16 ch.run.k ++ le16 ch.run.start ++ flagByte ch.run.released

/-- Table 64. -/
def Channel.payload (ch : Channel) : List Byte :=
  le8 ch.state.code ++ le8 ch.tb.val ++ le8 ch.mode.code ++ flagByte ch.safe
    ++ le16 ch.level ++ le16 ch.dutyI ++ le8 ch.dutyF
    ++ pendingLevelBytes ch.pendingLevel ++ le8 ch.pendingControl.code
    ++ flagByte ch.forced ++ flagByte ch.locked
    ++ le16 ch.quota ++ le16 ch.queue.length ++ replacementBytes ch.replacement
    ++ flagByte (!ch.queue.isEmpty) ++ headBytes ch.queue ++ ch.runBytes ++ le32 ch.stamp.toNat

/-- RP_QUERY response (R75, Table 62). -/
def Point.payload (p : Point) : List Byte :=
  le16 p.members.toNat ++ le16 p.arrived.toNat ++ le8 p.generation.toNat ++ le16 p.timeout ++ present16 p.timer

/-- PAIR_CONFIG response (R78, Table 62). -/
def Pair.payload (p : Pair) : List Byte := flagByte p.enabled ++ le8 p.deadTime

/-- ROUTE_SET response (R93, Table 62). -/
def Route.payload (r : Route) : List Byte :=
  flagByte r.enabled ++ le8 r.source.val ++ le8 r.pin.val ++ le8 r.priority.val ++ flagByte r.invert

/-- A winning entry, 0xFF for none (Table 59). -/
def winnerByte : Option (Fin 24) → List Byte
  | some e => le8 e.val
  | none => [0xFF]

/-- OUT_QUERY response (R95, Table 62). -/
def State.pinsPayload (s : State) : List Byte :=
  (List.finRange 20).flatMap fun pin => winnerByte (s.winner pin) ++ le8 (s.pinValue pin).code

/-- Polarity, filter and sample run; zero for SILENCE and SPEED (R109). -/
def fltInputBytes : Option FltInput → List Byte
  | none => le8 0 ++ le8 0 ++ le8 0
  | some i => le8 i.polarity.code ++ le8 i.filter ++ le8 i.run

/-- FAULT_QUERY response (R109, Table 62). -/
def State.faultPayload (s : State) (f : Fin 4) : List Byte :=
  le8 s.faults[f].action.code ++ le16 s.faults[f].chans.toNat ++ fltInputBytes s.faults[f].input
    ++ flagByte s.faults[f].active ++ flagByte s.faults[f].latched ++ le16 (s.coveredSet f).toNat

/-- SM_CONFIG and SM_QUERY response (R119, Table 62). -/
def SpeedUnit.payload (u : SpeedUnit) : List Byte :=
  le8 u.state.code ++ le8 u.edge.code ++ le16 u.window ++ present16 u.timer
    ++ le16 u.edges ++ le16 u.last ++ le16 u.minCount ++ le16 u.maxCount ++ le8 u.limit
    ++ flagByte u.inRange ++ le8 u.streak ++ flagByte u.linked ++ flagByte u.limitReported
    ++ flagByte u.asserting

/-! ## Report payloads (Tables 58 and 65) -/

/-- Request type code and target of APPLIED and SUPERSEDED (R161). -/
def Deferred.bytes : Deferred → List Byte
  | .tbPeriod t => [RequestKind.tbPeriod.code] ++ le8 t.val
  | .chLevel c => [RequestKind.chLevel.code] ++ le8 c.val
  | .segReplace c => [RequestKind.segReplace.code] ++ le8 c.val

/-- The TYPE code of a report (Table 58). -/
def Report.code : Report → Byte
  | .restarted _ => 0x40
  | .programEnd _ => 0x41
  | .note _ _ _ => 0x42
  | .applied _ _ => 0x43
  | .superseded _ _ => 0x44
  | .syncRelease _ _ _ => 0x45
  | .syncTimeout _ _ _ _ => 0x46
  | .syncSkipped _ _ => 0x47
  | .periodStretched _ _ _ => 0x48
  | .faultRaised _ _ _ => 0x49
  | .faultCleared _ => 0x4A
  | .speedLimit _ _ _ => 0x4B
  | .speedOk _ _ => 0x4C
  | .overflow _ => 0x4D

/-- Report payload (Table 65). -/
def Report.payload : Report → List Byte
  | .restarted cause => le8 cause.code
  | .programEnd c => le8 c.val
  | .note c tag count => le8 c.val ++ [tag] ++ le32 count.toNat
  | .applied seq item => [seq] ++ item.bytes
  | .superseded seq item => [seq] ++ item.bytes
  | .syncRelease p g m => le8 p.val ++ le8 g.toNat ++ le16 m.toNat
  | .syncTimeout p g a m => le8 p.val ++ le8 g.toNat ++ le16 a.toNat ++ le16 m.toNat
  | .syncSkipped c p => le8 c.val ++ le8 p.val
  | .periodStretched t counter period => le8 t.val ++ le16 counter ++ le16 period
  | .faultRaised f chans action => le8 f.val ++ le16 chans.toNat ++ le8 action.code
  | .faultCleared f => le8 f.val
  | .speedLimit u count direction => le8 u.val ++ le16 count ++ le8 direction.code
  | .speedOk u count => le8 u.val ++ le16 count
  | .overflow dropped => le16 dropped

/-! ## Frames (R124, R157) -/

/-- One bit of the CRC register: shift left, and add the generator x^16 + x^12 + x^5 + 1 when a one leaves (R124). -/
def crcBit (crc : BitVec 16) : BitVec 16 := if crc.msb then (crc <<< 1) ^^^ 0x1021#16 else crc <<< 1

/-- One byte fed most significant bit first (R124). -/
def crcByte (crc : BitVec 16) (b : Byte) : BitVec 16 :=
  Nat.repeat crcBit 8 (crc ^^^ (b.zeroExtend 16 <<< 8))

/-- The CRC-16 over bytes in the order given, the register preset to 0xFFFF (R124). -/
def crc16 (bytes : List Byte) : BitVec 16 := bytes.foldl crcByte 0xFFFF#16

/-- LEN of a body (R157). -/
def lenByte (body : List Byte) : Byte := BitVec.ofNat 8 body.length

/-- The CRC a frame with this body carries: over LEN and the body (R124, R157). -/
def bodyCrc (body : List Byte) : BitVec 16 := crc16 (lenByte body :: body)

def highByte (w : BitVec 16) : Byte := BitVec.ofNat 8 (w.toNat / 256)

def lowByte (w : BitVec 16) : Byte := BitVec.ofNat 8 w.toNat

/-- All the bytes of a frame: SYNC, LEN, body, CRC high byte first (R157, Table 57). -/
def frameBytes (body : List Byte) : List Byte :=
  [Config.syncByte, lenByte body] ++ body ++ [highByte (bodyCrc body), lowByte (bodyCrc body)]

/-- FLAGS: REPLAYED at bit 0, DROPPED at bit 1 (R158). -/
def Response.flags (r : Response) : Byte := BitVec.ofNat 8 (r.replayed.toNat + 2 * r.dropped.toNat)

/-- The body of a response frame (R157). -/
def Response.body (r : Response) : List Byte := [r.seq, r.type, r.status.code, r.flags] ++ r.payload

/-- The body of a report frame (R157, R161). -/
def Record.body (r : Record) : List Byte := [r.number, r.report.code] ++ r.report.payload

end Sys2Proof.Machine
end

