-- ==== Sys2Proof/Machine/Reply.lean ====
section
/-! DEFINITION. The answer of a request: its status, payload and tied effect (R138, R140). -/

namespace Sys2Proof.Machine

/-- What the handler builds a response from (R140). -/
structure Reply where
  status  : Status
  payload : List Byte
  tied    : Tied
  deriving DecidableEq, Repr

/-- A refused request: no payload, no tied effect, nothing changed (R138, R140). -/
def refuse (status : Status) (s : State) : Reply × State :=
  ({ status := status, payload := [], tied := .none }, s)

/-- An accepted request without a tied effect. -/
def accept (status : Status) (payload : List Byte) (s : State) : Reply × State :=
  ({ status := status, payload := payload, tied := .none }, s)

/-- A request checked by a list of tests, each with the status of its failure, in order (R138): the first failure
decides. -/
def firstFailure : List (Bool × Status) → Option Status
  | [] => none
  | (fails, status) :: rest => if fails then some status else firstFailure rest

/-- Refuse at the first failing test, else do what the request does. -/
def checked (tests : List (Bool × Status)) (s : State) (effect : Reply × State) : Reply × State :=
  match firstFailure tests with
  | some status => refuse status s
  | none => effect

end Sys2Proof.Machine
end

