-- ==== Sys2Proof/Machine/ChannelRequests.lean ====
section
/-! DEFINITION. The seven requests to channels (R38, R53 to R59). -/

namespace Sys2Proof.Machine

/-- A CH_CONFIG as it reaches the channel, and the binding of the odd channel of its enabled pair (R38). -/
def State.configChannel (c : Fin 16) (tb : Fin 4) (mode : Mode) (safe : Bool) (s : State) : State :=
  s.mapChans fun i ch =>
    if i = c then { ch with tb := tb, mode := mode, safe := safe }
    else if isEven c && s.pairs[pairOf c].enabled && i == oddOf (pairOf c) then { ch with tb := tb }
    else ch

/-- CH_CONFIG (R38). -/
def takeChConfig (p : List Byte) (s : State) : Reply × State :=
  if p.length ≠ 4 then refuse .badLength s
  else
    match element? 16 (u8 p 0), element? 4 (u8 p 1), mode? (u8 p 2), safeLevel? (u8 p 3) with
    | some c, some tb, some mode, some safe =>
      checked [(s.chans[c].locked, .locked), (s.chans[c].state != .idle, .state)]
        s (accept .ok [] ((s.configChannel c tb mode safe).rebindPair c s))
    | _, _, _, _ => refuse .badArg s

/-- The SEQ of a notified pending level. -/
def Channel.levelSeq (ch : Channel) : Option Byte :=
  match ch.pendingLevel with
  | some p => p.notify
  | none => none

/-- CH_LEVEL (R53). -/
def takeChLevel (seq : Byte) (p : List Byte) (s : State) : Reply × State :=
  if p.length ≠ 4 then refuse .badLength s
  else
    match element? 16 (u8 p 0), level? (u16 p 1), mark? (u8 p 3) with
    | some c, some level, some notify =>
      checked [(s.chans[c].locked, .locked), (s.chans[c].state != .idle, .state)]
        s (accept .pending []
          ((s.modChan c fun ch =>
              { ch with pendingLevel := some { level := level, notify := if notify then some seq else none } }).offerIf
            s.chans[c].levelSeq fun old => .superseded old (.chLevel c)))
    | _, _, _ => refuse .badArg s

/-- Some channel of a set has a property (R139). -/
def State.anyOf (s : State) (set : ChSet) (f : Channel → Bool) : Bool :=
  (List.finRange 16).any fun c => set.has c && f s.chans[c]

/-- The channels of a set change at one event (R139). -/
def State.modSet (set : ChSet) (f : Channel → Channel) (s : State) : State :=
  s.mapChans fun c ch => if set.has c then f ch else ch

/-- A request to a set of channels: its length, the empty set, a locked channel, then its own state test (R139). -/
def forSet (p : List Byte) (s : State) (badState : Channel → Bool) (effect : ChSet → Reply × State) : Reply × State :=
  if p.length ≠ 2 then refuse .badLength s
  else
    let set := chSetAt p 0
    checked
      [(set == 0, .badArg), (s.anyOf set Channel.locked, .locked), (s.anyOf set badState, .state)]
      s (effect set)

/-- CH_START (R54). -/
def takeChStart (p : List Byte) (s : State) : Reply × State :=
  forSet p s (fun ch => ch.state != .idle || ch.queue.isEmpty) fun set =>
    accept .ok [] (s.modSet set fun ch => { ch with state := .armed })

/-- CH_PAUSE (R55). -/
def takeChPause (p : List Byte) (s : State) : Reply × State :=
  forSet p s (fun ch => ch.state != .running) fun set =>
    accept (if s.anyOf set (fun ch => ch.pendingControl != .pause) then .pending else .ok) []
      (s.modSet set fun ch => { ch with pendingControl := .pause })

/-- CH_RESUME is accepted of a PAUSED channel, or of a RUNNING one that holds PAUSE (R56). -/
def Channel.resumable (ch : Channel) : Bool :=
  ch.state == .paused || (ch.state == .running && ch.pendingControl == .pause)

/-- What CH_RESUME leaves pending: RESUME on a PAUSED channel, nothing on a RUNNING one (R56). -/
def Channel.resume (ch : Channel) : Channel :=
  { ch with pendingControl := if ch.state = .paused then .resume else .none }

/-- CH_RESUME (R56). -/
def takeChResume (p : List Byte) (s : State) : Reply × State :=
  forSet p s (fun ch => !ch.resumable) fun set =>
    accept (if s.anyOf set (fun ch => ch.state == .paused && ch.pendingControl != .resume) then .pending else .ok) []
      (s.modSet set Channel.resume)

/-- CH_FLUSH of one channel (R57). -/
def State.flushChannel (c : Fin 16) (s : State) : State :=
  (((s.withdraw c).freeQueue c).supersedeReplacement c).modChan c fun ch =>
    { ch with pendingControl := .none, state := if ch.state = .faulted then .faulted else .idle }

/-- CH_FLUSH (R57); the SUPERSEDED reports of several channels enter in either order. -/
def takeChFlush (p : List Byte) (s : State) : Reply × State :=
  forSet p s (fun _ => false) fun set => accept .ok [] (forEachInAnyOrder set.toList State.flushChannel s)

/-- CH_QUERY (R59). -/
def takeChQuery (p : List Byte) (s : State) : Reply × State :=
  if p.length ≠ 1 then refuse .badLength s
  else
    match element? 16 (u8 p 0) with
    | some c => accept .ok s.chans[c].payload s
    | none => refuse .badArg s

end Sys2Proof.Machine
end

