-- ==== Sys2Proof/Machine/FaultMonitor.lean ====
section
/-! DEFINITION. Latching of fault sources and their actions on channels (R99 to R107). -/

namespace Sys2Proof.Machine

/-- Forcing of a channel: its forced flag is set, and an enabled pair whose even channel it is goes low (R104, R84). -/
def State.forceChannel (c : Fin 16) (s : State) : State :=
  (s.modChan c fun ch => { ch with forced := true }).forcePair c

/-- Stopping of a channel's program (R105): arrival withdrawn, pending control discarded, FAULTED. A locked channel is
not stopped, and a FAULTED one stays as it is. -/
def State.stopChannel (c : Fin 16) (s : State) : State :=
  if s.chans[c].locked || s.chans[c].state == .faulted then s
  else (s.withdraw c).modChan c fun ch => { ch with pendingControl := .none, state := .faulted }

/-- A channel becomes covered by a source (R104, R105). -/
def State.coverChannel (f : Fin 4) (c : Fin 16) (s : State) : State :=
  match s.faults[f].action with
  | .none => s
  | .forceSafe => s.forceChannel c
  | .stop => (s.forceChannel c).stopChannel c

/-- Latching of a source (R102): FAULT_RAISED with its set and action, and its action reaches the channels it covers. -/
def State.latchFault (f : Fin 4) (s : State) : State :=
  let s1 := s.offer (.faultRaised f s.faults[f].chans s.faults[f].action)
  let s2 := s1.modFault f fun src => { src with latched := true }
  forEach ((List.finRange 16).filter (s2.covers f)) (State.coverChannel f) s2

/-- A source becomes active; one already latched is not latched again (R102). -/
def State.activateFault (f : Fin 4) (s : State) : State :=
  let s' := s.modFault f fun src => { src with active := true }
  if s.faults[f].latched then s' else s'.latchFault f

/-- A source becomes inactive; it stays latched (R99). -/
def State.deactivateFault (f : Fin 4) (s : State) : State :=
  s.modFault f fun src => { src with active := false }

/-- The active level of an input (R99). -/
def Polarity.activeAt (p : Polarity) (high : Bool) : Bool :=
  match p with
  | .activeLow => !high
  | .activeHigh => high

/-- The sample run after a sample, and the active flag that an inactive level clears (R99). -/
def FaultSource.sample (src : FaultSource) (high : Bool) : FaultSource :=
  match src.input with
  | none => src
  | some i =>
    if i.polarity.activeAt high then { src with input := some { i with run := min i.filter (i.run + 1) } }
    else { src with input := some { i with run := 0 }, active := false }

/-- A source becomes active at a sample: the active level brings its run to the filter value, and its active flag is
clear (R99). DESIGN CHOICE (log entry 27): the first sample after a FAULT_CONFIG to a filter of 1 makes the source active,
by the full filter run of R99 and R108, where R110 says that the sample a FAULT_CONFIG was taken ahead of does not. -/
def FaultSource.becomesActive (src : FaultSource) (high : Bool) : Bool :=
  match src.input with
  | none => false
  | some i => i.polarity.activeAt high && decide (i.filter ≤ i.run + 1) && !src.active

/-- One sample of FLT0 and FLT1 (R99); the sources that become active at it do so in either order (R102). -/
def State.sampleFaults (flt : Vector Bool 2) (s : State) : State :=
  let rising := (if s.faults[0].becomesActive flt[0] then [(0 : Fin 4)] else [])
    ++ (if s.faults[1].becomesActive flt[1] then [1] else [])
  forEachInAnyOrder rising State.activateFault
    ((s.modFault 0 fun src => src.sample flt[0]).modFault 1 fun src => src.sample flt[1])

/-- The state a FAULTED channel returns to (R107). -/
def Channel.returned (ch : Channel) : Channel :=
  { ch with state := if ch.queue.isEmpty then .idle else .paused }

/-- An accepted FAULT_CLEAR of a latched source (R106, R107): unlatched, FAULT_CLEARED, and every FAULTED channel that
no latched STOP source covers any longer returns. -/
def State.clearFault (f : Fin 4) (s : State) : State :=
  let s1 := s.modFault f fun src => { src with latched := false }
  let s2 := s1.offer (.faultCleared f)
  s2.mapChans fun c ch => if ch.state = .faulted ∧ s2.coveredByStop c = false then ch.returned else ch

end Sys2Proof.Machine
end

