-- ==== Sys2Proof/Machine/SpeedMonitor.lean ====
section
/-! DEFINITION. Edge counting and windows of the speed units (chapter 8). -/

namespace Sys2Proof.Machine

/-- The edge field selects a change to the level given (R113). -/
def Edge.selects (e : Edge) (high : Bool) : Bool :=
  match e with
  | .rising => high
  | .falling => !high
  | .both => true

/-- One sample of a unit's tachometer input (R113). -/
def SpeedUnit.sample (u : SpeedUnit) (high : Bool) : SpeedUnit :=
  if u.state = .off then u
  else
    match u.previous with
    | none => { u with previous := some high }
    | some old =>
      if old = high then u
      else { u with previous := some high
                    edges := if u.edge.selects high then min 65535 (u.edges + 1) else u.edges }

/-- The count just latched lies outside the limits (R115). -/
def SpeedUnit.outOfRange (u : SpeedUnit) : Bool := decide (u.last < u.minCount) || decide (u.maxCount < u.last)

/-- The count is latched and the next window begins (R114, steps 1 and 2). -/
def SpeedUnit.closeWindow (u : SpeedUnit) : SpeedUnit := { u with last := u.edges, edges := 0, timer := some 0 }

/-- The first window is passed over; a later one is judged (R114, step 3; R115, R116). -/
def SpeedUnit.judge (u : SpeedUnit) : SpeedUnit :=
  match u.state with
  | .off => u
  | .firstWindow => { u with state := .measuring }
  | .measuring =>
    if u.outOfRange then { u with streak := min 15 (u.streak + 1), inRange := false, limitReported := true }
    else { u with streak := 0, inRange := true, limitReported := false }

/-- The report a judged window queues, if any; `u` is the unit with its window closed and not yet judged (R115, R116). -/
def SpeedUnit.windowReport (i : Fin 4) (u : SpeedUnit) : Option Report :=
  if u.state ≠ .measuring then none
  else if u.outOfRange then
    (if u.limitReported then none else some (.speedLimit i u.last (if u.last < u.minCount then .low else .high)))
  else if u.limitReported then some (.speedOk i u.last)
  else none

/-- What a window's end hands to other blocks: a report, and SPEED becoming active. -/
inductive WindowEffect where
  | report (r : Report)
  | raiseSpeed
  deriving DecidableEq, Repr

def State.windowEffect (e : WindowEffect) (s : State) : State :=
  match e with
  | .report r => s.offer r
  | .raiseSpeed => s.activateFault speed

/-- SPEED becomes inactive at the event at which the last asserting unit stops (R101). -/
def State.settleSpeed (s : State) : State :=
  if s.anyAsserting then s else s.deactivateFault speed

/-- Expiry of a unit's window (R114). SPEED becomes active when the first asserting unit begins; its FAULT_RAISED and
the unit's own report enter in either order (R101, R117). -/
def State.expireWindow (u : Fin 4) (s : State) : State :=
  let closed := s.units[u].closeWindow
  let s1 := s.modUnit u fun _ => closed.judge
  let effects := (closed.windowReport u).toList.map WindowEffect.report
    ++ (if !s.anyAsserting && s1.anyAsserting then [WindowEffect.raiseSpeed] else [])
  (forEachInAnyOrder effects State.windowEffect s1).settleSpeed

end Sys2Proof.Machine
end

