-- ==== Sys2Proof/Machine/MonitorRequests.lean ====
section
/-! DEFINITION. The requests to the fault monitor and the speed monitor (R106 to R109, R118, R119). -/

namespace Sys2Proof.Machine

/-- FAULT_CONFIG (R108). -/
def takeFaultConfig (p : List Byte) (s : State) : Reply × State :=
  if p.length ≠ 6 then refuse .badLength s
  else
    match element? 4 (u8 p 0), action? (u8 p 1) with
    | some f, some action =>
      match fltInput? f (u8 p 4) (u8 p 5) with
      | some input =>
        if s.faults[f].latched then refuse .state s
        else accept .ok [] (s.modFault f fun src =>
          { src with action := action, chans := chSetAt p 2, input := input })
      | none => refuse .badArg s
    | _, _ => refuse .badArg s

/-- FAULT_CLEAR (R106, R107). -/
def takeFaultClear (p : List Byte) (s : State) : Reply × State :=
  if p.length ≠ 1 then refuse .badLength s
  else
    match element? 4 (u8 p 0) with
    | none => refuse .badArg s
    | some f =>
      if s.faults[f].active then refuse .faultActive s
      else if s.faults[f].latched then accept .ok [] (s.clearFault f)
      else accept .ok [] s

/-- FAULT_QUERY (R109). -/
def takeFaultQuery (p : List Byte) (s : State) : Reply × State :=
  if p.length ≠ 1 then refuse .badLength s
  else
    match element? 4 (u8 p 0) with
    | some f => accept .ok (s.faultPayload f) s
    | none => refuse .badArg s

/-- The fields of an SM_CONFIG after the unit's number (R118). -/
structure UnitConfig where
  enable : Bool
  edge   : Edge
  window : Nat
  minCount : Nat
  maxCount : Nat
  limit  : Nat
  link   : Bool
  deriving DecidableEq, Repr

/-- The fields of an SM_CONFIG in their ranges (R118). -/
def unitConfig? (p : List Byte) : Option UnitConfig :=
  match mark? (u8 p 1), edge? (u8 p 2), within? 1 2000 (u16 p 3), within? 1 15 (u8 p 9), mark? (u8 p 10) with
  | some enable, some edge, some window, some limit, some link =>
    if u16 p 7 < u16 p 5 then none
    else some { enable := enable, edge := edge, window := window, minCount := u16 p 5, maxCount := u16 p 7,
                limit := limit, link := link }
  | _, _, _, _, _ => none

/-- A unit configured and restarted, or turned OFF; the last count and the limit-reported flag are kept (R118). -/
def SpeedUnit.configure (u : SpeedUnit) (cfg : UnitConfig) : SpeedUnit :=
  { u with
    state := if cfg.enable then .firstWindow else .off
    edge := cfg.edge
    window := cfg.window
    timer := if cfg.enable then some 0 else none
    previous := none
    edges := 0
    minCount := cfg.minCount
    maxCount := cfg.maxCount
    inRange := false
    streak := 0
    limit := cfg.limit
    linked := cfg.link }

/-- SM_CONFIG (R118); a unit that was asserting SPEED stops (R101, R117). -/
def takeSmConfig (p : List Byte) (s : State) : Reply × State :=
  if p.length ≠ 11 then refuse .badLength s
  else
    match element? 4 (u8 p 0), unitConfig? p with
    | some u, some cfg =>
      let s' := (s.modUnit u fun unit => unit.configure cfg).settleSpeed
      accept .ok s'.units[u].payload s'
    | _, _ => refuse .badArg s

/-- SM_QUERY (R119). -/
def takeSmQuery (p : List Byte) (s : State) : Reply × State :=
  if p.length ≠ 1 then refuse .badLength s
  else
    match element? 4 (u8 p 0) with
    | some u => accept .ok s.units[u].payload s
    | none => refuse .badArg s

end Sys2Proof.Machine
end

