-- ==== Sys2Proof/Machine/OutputRequests.lean ====
section
/-! DEFINITION. The requests to rendezvous points, pairs and the output router (R64, R75, R78 to R82, R93 to R95). -/

namespace Sys2Proof.Machine

/-- RP_DEFINE (R64). -/
def takeRpDefine (p : List Byte) (s : State) : Reply × State :=
  if p.length ≠ 5 then refuse .badLength s
  else
    match element? 8 (u8 p 0), within? 0 60000 (u16 p 3) with
    | some i, some timeout =>
      if s.points[i].arrived ≠ 0 then refuse .state s
      else accept .ok [] (s.modPoint i fun pt => { pt with members := chSetAt p 1, timeout := timeout })
    | _, _ => refuse .badArg s

/-- RP_QUERY (R75). -/
def takeRpQuery (p : List Byte) (s : State) : Reply × State :=
  if p.length ≠ 1 then refuse .badLength s
  else
    match element? 8 (u8 p 0) with
    | some i => accept .ok s.points[i].payload s
    | none => refuse .badArg s

/-- The odd channel of a pair is free to be locked (R78, step 3). -/
def Channel.lockable (ch : Channel) : Bool :=
  ch.state == .idle && ch.queue.isEmpty && ch.pendingLevel.isNone && ch.replacement.isNone

/-- R104 and R105 at a PAIR_CONFIG that enables or disables the pair: the membership tested for the odd channel is now
another's, and the odd channel becomes covered by every source that covers it by that membership, whether or not it was
covered before (R103; log entry 20). The membership tested for the even channel is always its own. -/
def State.coverRetested (k : Fin 8) (s : State) : State :=
  forEach ((List.finRange 4).filter fun f => s.covers f (oddOf k)) (fun f => State.coverChannel f (oddOf k)) s

/-- Enabling a disabled pair (R79). -/
def State.enablePair (k : Fin 8) (d : Nat) (s : State) : State :=
  ((s.modPair k fun pr => { pr with enabled := true, deadTime := d }).modChan (oddOf k) fun ch =>
    { ch with locked := true, tb := s.chans[evenOf k].tb }).restartPair k

/-- Disabling an enabled pair (R80). -/
def State.disablePair (k : Fin 8) (d : Nat) (s : State) : State :=
  (s.modPair k fun pr => { pr.low with enabled := false, deadTime := d }).modChan (oddOf k) fun ch =>
    { ch with locked := false }

/-- An accepted PAIR_CONFIG by the pair's state and the enable value (R78). -/
def State.configPair (k : Fin 8) (enable : Bool) (d : Nat) (s : State) : State :=
  match s.pairs[k].enabled, enable with
  | false, true => (s.enablePair k d).coverRetested k
  | true, true => s.modPair k fun pr => pr.setDeadTime d
  | true, false => (s.disablePair k d).coverRetested k
  | false, false => s.modPair k fun pr => { pr with deadTime := d }

/-- PAIR_CONFIG (R78). -/
def takePairConfig (p : List Byte) (s : State) : Reply × State :=
  if p.length ≠ 3 then refuse .badLength s
  else
    match element? 8 (u8 p 0), mark? (u8 p 1), within? 0 63 (u8 p 2) with
    | some k, some enable, some d =>
      if enable && !s.pairs[k].enabled && !s.chans[oddOf k].lockable then refuse .state s
      else
        let s' := s.configPair k enable d
        accept .ok s'.pairs[k].payload s'
    | _, _, _ => refuse .badArg s

/-- The five fields of a ROUTE_SET (R93). -/
def route? (p : List Byte) : Option Route :=
  match mark? (u8 p 1), element? 16 (u8 p 2), element? 20 (u8 p 3), element? 4 (u8 p 4), mark? (u8 p 5) with
  | some enabled, some source, some pin, some priority, some invert =>
    some { enabled := enabled, source := source, pin := pin, priority := priority, invert := invert }
  | _, _, _, _, _ => none

/-- ROUTE_SET (R93). Winners and pin values follow from the table at once (R90, R91). -/
def takeRouteSet (p : List Byte) (s : State) : Reply × State :=
  if p.length ≠ 6 then refuse .badLength s
  else
    match element? 24 (u8 p 0), route? p with
    | some e, some r => accept .ok r.payload { s with routes := s.routes.set e r }
    | _, _ => refuse .badArg s

/-- PIN_CONFIG (R94). -/
def takePinConfig (p : List Byte) (s : State) : Reply × State :=
  if p.length ≠ 2 then refuse .badLength s
  else
    match element? 20 (u8 p 0), drive? (u8 p 1) with
    | some pin, some d => accept .ok (le8 d.code) { s with idles := s.idles.set pin d }
    | _, _ => refuse .badArg s

/-- OUT_QUERY (R95). -/
def takeOutQuery (p : List Byte) (s : State) : Reply × State :=
  if p.length ≠ 0 then refuse .badLength s else accept .ok s.pinsPayload s

end Sys2Proof.Machine
end

