-- ==== Sys2Proof/Machine/PartRequests.lean ====
section
/-! DEFINITION. The requests that concern the part as a whole (R143 to R146) and the report queue (R152, R153). -/

namespace Sys2Proof.Machine

/-- GET_INFO (R143). -/
def takeGetInfo (p : List Byte) (s : State) : Reply × State :=
  if p.length ≠ 0 then refuse .badLength s else accept .ok infoPayload s

/-- The four counters set to 0 (R127). -/
def Link.clearCounters (l : Link) : Link :=
  { l with crcErrors := 0, framingErrors := 0, timeouts := 0, droppedFrames := 0 }

/-- GET_STATUS (R144): the values go into the response before the counters are cleared. -/
def takeGetStatus (p : List Byte) (s : State) : Reply × State :=
  if p.length ≠ 1 then refuse .badLength s
  else
    match mark? (u8 p 0) with
    | none => refuse .badArg s
    | some clear => accept .ok s.statusPayload (if clear then s.modLink Link.clearCounters else s)

/-- A response that loses its tie to the pending rate, when a later one takes it (R132). -/
def Response.untieRate (r : Response) : Response := if r.tied = .rate then { r with tied := .none } else r

/-- A frame in flight that loses its tie to the pending rate (R132). -/
def Transmitter.untieRate (t : Transmitter) : Transmitter :=
  match t with
  | .sending frame rate age =>
    if frame.kind = .response .rate then .sending { frame with kind := .response .none } rate age else t
  | _ => t

/-- A new pending rate; an earlier response's completion then changes no rate (R132). -/
def Link.setPendingRate (l : Link) (r : Rate) : Link :=
  { l with pendingRate := some r, holding := l.holding.map Response.untieRate, tx := l.tx.untieRate }

/-- A new host-silence limit stops or restarts the timer (R133). -/
def Link.setSilenceLimit (l : Link) (limit : Nat) : Link :=
  { l with silenceLimit := limit, silenceTimer := if limit = 0 then none else some 0 }

/-- The change of a SET_LINK (R145). -/
def State.changeLink (rate : Option Rate) (window limit : Option Nat) (s : State) : State :=
  let s1 := match window with
    | some w => { s with reports := { s.reports with window := w } }
    | none => s
  let s2 := match limit with
    | some n => s1.modLink fun l => l.setSilenceLimit n
    | none => s1
  match rate with
  | some r => s2.modLink fun l => l.setPendingRate r
  | none => s2

/-- A window below the sent count (R145, step 3). -/
def State.windowTooSmall (s : State) (window : Option Nat) : Bool :=
  match window with
  | some w => decide (w < s.reports.sentCount)
  | none => false

/-- SET_LINK (R145). -/
def takeSetLink (p : List Byte) (s : State) : Reply × State :=
  if p.length ≠ 10 then refuse .badLength s
  else
    match change? (u8 p 0) (u32 p 1) rate?, change? (u8 p 5) (u8 p 6) (within? 1 8),
        change? (u8 p 7) (u16 p 8) silenceLimit? with
    | some rate, some window, some limit =>
      if s.windowTooSmall window then refuse .state s
      else
        let s' := s.changeLink rate window limit
        ({ status := if rate.isSome then .pending else .ok
           payload := s'.linkPayload
           tied := if rate.isSome then .rate else .none }, s')
    | _, _, _ => refuse .badArg s

/-- RESET_DEVICE (R146): the soft reset is tied to the response. -/
def takeResetDevice (p : List Byte) (s : State) : Reply × State :=
  if p.length ≠ 0 then refuse .badLength s
  else ({ status := .ok, payload := [], tied := .softReset }, s)

/-- The records up to and with the sent record of a number, counted; none if no such record is sent (R152). -/
def ackCount (number : Byte) : List Record → Option Nat
  | [] => none
  | r :: rest =>
    if r.number = number then (if r.sent then some 1 else none)
    else (ackCount number rest).map (· + 1)

/-- RPT_ACK (R152). -/
def takeRptAck (p : List Byte) (s : State) : Reply × State :=
  if p.length ≠ 1 then refuse .badLength s
  else
    match ackCount (byteAt p 0) s.reports.records with
    | none => refuse .badArg s
    | some n =>
      let left := s.reports.records.drop n
      accept .ok (le8 n ++ le8 left.length) { s with reports := { s.reports with records := left } }

/-- RPT_RESEND (R153). -/
def takeRptResend (p : List Byte) (s : State) : Reply × State :=
  if p.length ≠ 0 then refuse .badLength s
  else accept .ok (le8 s.reports.records.length) { s with reports := s.reports.unsendAll }

end Sys2Proof.Machine
end

