-- ==== Sys2Proof/Machine/PoolRequests.lean ====
section
/-! DEFINITION. The three requests to the segment pool (R26 to R30, R58). -/

namespace Sys2Proof.Machine

/-- The sum of sixteen quotas. -/
def quotaSum (q : Vector Nat 16) : Nat := ((List.finRange 16).map fun c => q[c]).sum

/-- CH_QUOTA (R26). -/
def takeChQuota (p : List Byte) (s : State) : Reply × State :=
  if p.length ≠ 32 then refuse .badLength s
  else
    let q := quotasOf p
    checked
      [((List.finRange 16).any (fun c => decide (512 < q[c])) || decide (512 < quotaSum q), .badArg),
        ((List.finRange 16).any (fun c => decide (q[c] < s.chans[c].holds)), .quota)]
      s (accept .ok [] (s.mapChans fun c ch => { ch with quota := q[c] }))

/-- A SYNC carried names a point whose member set does not contain the channel (R27, R29). -/
def State.namesForeignPoint (s : State) (c : Fin 16) (segs : List Segment) : Bool :=
  segs.any fun seg =>
    match seg with
    | .sync p => !s.points[p].members.has c
    | _ => false

/-- SEG_APPEND (R27, R28). -/
def takeSegAppend (p : List Byte) (s : State) : Reply × State :=
  if segmentsLengthOk 1 p.length = false then refuse .badLength s
  else
    match element? 16 (u8 p 0), segments? (p.drop 1) with
    | some c, some segs =>
      checked
        [(s.chans[c].locked, .locked),
          (decide (s.chans[c].quota < s.chans[c].holds + segs.length), .quota),
          (s.namesForeignPoint c segs, .notMember)]
        s (accept .ok [] (s.takeToQueue c segs))
    | _, _ => refuse .badArg s

/-- SEG_REPLACE (R29, R30, R58). -/
def takeSegReplace (seq : Byte) (p : List Byte) (s : State) : Reply × State :=
  if segmentsLengthOk 2 p.length = false then refuse .badLength s
  else
    match element? 16 (u8 p 0), mark? (u8 p 1), segments? (p.drop 2) with
    | some c, some notify, some segs =>
      checked
        [(s.chans[c].locked, .locked),
          (s.chans[c].state == .idle || s.chans[c].state == .armed, .state),
          (decide (s.chans[c].quota < s.chans[c].queue.length + segs.length), .quota),
          (s.namesForeignPoint c segs, .notMember)]
        s (accept .pending []
          ((s.supersedeReplacement c).takeToReplacement c segs (if notify then some seq else none)))
    | _, _, _ => refuse .badArg s

end Sys2Proof.Machine
end

