-- ==== Sys2Proof/Machine/Boundary.lean ====
section
/-! DEFINITION. Ticks and boundaries of a timebase (R3 to R6) and the six stages in which a channel handles a boundary (chapter 3). -/

namespace Sys2Proof.Machine

/-! ## The six stages -/

/-- Stage 1: a pending level becomes the level (R40). -/
def State.stageLevel (c : Fin 16) (s : State) : State :=
  match s.chans[c].pendingLevel with
  | none => s
  | some p =>
    (s.modChan c fun ch => { ch with level := p.level, pendingLevel := none }).offerIf p.notify
      fun seq => .applied seq (.chLevel c)

/-- Stage 2: a pending replacement list is applied (R41). -/
def State.stageReplacement (c : Fin 16) (s : State) : State :=
  match s.chans[c].replacement with
  | none => s
  | some r =>
    let s1 := (s.withdraw c).promote c
    let s2 := s1.modChan c fun ch => { ch with state := if ch.state = .waiting then .running else ch.state }
    s2.offerIf r.notify fun seq => .applied seq (.segReplace c)

/-- Pending control applied and cleared, then an ARMED channel made RUNNING (R42). -/
def Channel.applyControl (ch : Channel) : Channel :=
  { ch with
    pendingControl := .none
    state :=
      match ch.pendingControl, ch.state with
      | .pause, .running => .paused
      | .resume, .paused => .running
      | _, .armed => .running
      | _, st => st }

/-- Stage 3 (R42). -/
def State.stageControl (c : Fin 16) (s : State) : State := s.modChan c Channel.applyControl

/-- L(k) of a RAMP from `start` to `target` over `periods` (R47). -/
def rampLevel (start target periods k : Nat) : Nat :=
  if start ≤ target then start + (target - start) * k / periods
  else start - (start - target) * k / periods

/-- The program ends: PROGRAM_END, IDLE (R51). -/
def State.endProgram (c : Fin 16) (s : State) : State :=
  (s.offer (.programEnd c)).modChan c fun ch => { ch with state := .idle }

/-- Start heads (R43, R44), `left` counting what is left of the bound: an empty queue ends the program (R51), the
bound reached leaves the head not started, and else the head is started by its kind (R45 to R50). -/
def State.startHeads (c : Fin 16) : Nat → State → State
  | 0, s => if s.chans[c].queue.isEmpty then s.endProgram c else s
  | left + 1, s =>
    match s.chans[c].queue with
    | [] => s.endProgram c
    | .set level :: _ =>
      State.startHeads c left ((s.modChan c fun ch => { ch with level := level }).completeHead c)
    | .note tag :: _ =>
      State.startHeads c left
        ((s.offer (.note c tag s.tbs[s.chans[c].tb].periodCount)).completeHead c)
    | .hold _ :: _ => s.modChan c fun ch => { ch with run := { ch.run with k := 1 } }
    | .ramp target periods :: _ =>
      s.modChan c fun ch =>
        { ch with run := { ch.run with k := 1, start := ch.level }
                  level := rampLevel ch.level target periods 1 }
    | .sync p :: _ =>
      if s.points[p].members.has c then s.arrive c p
      else State.startHeads c left ((s.offer (.syncSkipped c p)).completeHead c)

/-- What stage 4 does with a head in progress: a further period, completion, or nothing (R43). -/
inductive HeadStep where
  /-- not started (R43) -/
  | notStarted
  /-- a RAMP or HOLD takes its next period (R46, R47) -/
  | nextPeriod
  /-- the head completes (R46, R47, R49) -/
  | completes
  /-- a SYNC released at this same boundary is kept (R49) -/
  | kept
  deriving DecidableEq, Repr

/-- How the head of a queue stands at stage 4; `count` is the period count of the boundary (R43, R46, R47, R49). -/
def Channel.headStep (ch : Channel) (count : BitVec 32) : HeadStep :=
  match ch.queue with
  | .ramp _ n :: _ | .hold n :: _ =>
    if ch.run.k = 0 then .notStarted else if ch.run.k < n then .nextPeriod else .completes
  | .sync _ :: _ =>
    if ch.run.released then (if ch.stamp = count then .kept else .completes) else .notStarted
  | _ => .notStarted

/-- A RAMP or HOLD in progress takes its next period: k, and the level of a RAMP (R46, R47). -/
def Channel.nextPeriod (ch : Channel) : Channel :=
  { ch with
    run := { ch.run with k := ch.run.k + 1 }
    level :=
      match ch.queue with
      | .ramp target n :: _ => rampLevel ch.run.start target n (ch.run.k + 1)
      | _ => ch.level }

/-- Stage 4: program advance of a RUNNING channel (R43, R44). -/
def State.stageAdvance (c : Fin 16) (s : State) : State :=
  let ch := s.chans[c]
  if ch.state ≠ .running then s
  else
    match ch.headStep s.tbs[ch.tb].periodCount with
    | .notStarted => State.startHeads c ch.queue.length s
    | .nextPeriod => s.modChan c Channel.nextPeriod
    | .completes => State.startHeads c (ch.queue.length - 1) (s.completeHead c)
    | .kept => s

/-- Latched duty from the level and the period that begins (R15, R52). -/
def Channel.latch (ch : Channel) (period : Nat) : Channel :=
  { ch with dutyI := dutySixteenths ch.level period / 16, dutyF := dutySixteenths ch.level period % 16 }

/-- Stage 5 (R52). -/
def State.stageLatch (c : Fin 16) (s : State) : State :=
  s.modChan c fun ch => ch.latch s.tbs[ch.tb].period

/-- Stage 6: the forced flag is cleared when no source covers the channel (R52). -/
def State.stageUnforce (c : Fin 16) (s : State) : State :=
  if s.chans[c].forced && !s.covered c then s.modChan c fun ch => { ch with forced := false } else s

/-- The boundary as it reaches an enabled pair whose even channel is `c`: a restart at a start boundary or where the
forced flag was lifted, else an ordinary tick (R81 to R84). `x` is the value of x before the boundary, `before` the
state before stage 6. -/
def State.boundaryPair (c : Fin 16) (starts x : Bool) (s before : State) : State :=
  let k := pairOf c
  if !(isEven c && s.pairActs k) then s
  else if starts || before.chans[c].forced then s.restartPair k
  else s.modPair k fun p => p.tick x (s.basicSignal c)

/-- A channel handles a boundary of its timebase (R39); `old` is the state before the boundary. -/
def State.handleBoundary (starts : Bool) (c : Fin 16) (s old : State) : State :=
  let s5 := (((((s.stageLevel c).stageReplacement c).stageControl c).stageAdvance c).stageLatch c)
  (s5.stageUnforce c).boundaryPair c starts (old.basicSignal c) s5

/-! ## The timebase -/

/-- The timebase's own part of a boundary (R4), or of a start boundary, where the slot is set to 0 (R6). -/
def Timebase.begin (tb : Timebase) (starts : Bool) : Timebase :=
  { tb with
    counter := 0
    slot := if starts then 0 else tb.slot + 1
    periodCount := tb.periodCount + 1
    stretch := false
    prescaler := 0
    period := match tb.pendingPeriod with
      | some p => p.period
      | none => tb.period
    pendingPeriod := none }

/-- The parts of a boundary event after the timebase's own record (R5, R39). -/
inductive BoundaryPart where
  /-- the timebase's APPLIED report -/
  | applied (seq : Byte)
  /-- a bound channel's handling -/
  | channel (c : Fin 16)
  deriving DecidableEq, Repr

/-- The channels bound to a timebase (R5). -/
def State.boundTo (s : State) (t : Fin 4) : List (Fin 16) :=
  (List.finRange 16).filter fun c => s.chans[c].tb == t

/-- The SEQ of a notified pending period. -/
def Timebase.notifySeq (tb : Timebase) : Option Byte :=
  match tb.pendingPeriod with
  | some p => p.notify
  | none => none

/-- The parts of a boundary of `t` (R4, R5). -/
def State.boundaryParts (s : State) (t : Fin 4) : List BoundaryPart :=
  s.tbs[t].notifySeq.toList.map .applied ++ (s.boundTo t).map .channel

/-- One part of a boundary. DESIGN CHOICE (log entry 31): R5 and R149 let the APPLIED of R4 and the reports of different
channels enter in either order. Here reports enter in the order in which the parts are taken, which is free (log entry 1),
so none enters between two reports of one channel. -/
def State.takeBoundaryPart (t : Fin 4) (starts : Bool) (old : State) (part : BoundaryPart) (s : State) : State :=
  match part with
  | .applied seq => s.offer (.applied seq (.tbPeriod t))
  | .channel c => s.handleBoundary starts c old

/-- A boundary of a timebase, one whole event: R4, then its APPLIED report and every bound channel's handling, in
either order (R5, R39). -/
def State.boundary (starts : Bool) (t : Fin 4) (s : State) : State :=
  forEachInAnyOrder (s.boundaryParts t) (State.takeBoundaryPart t starts s)
    (s.modTb t fun tb => tb.begin starts)

/-- The next tick of the timebase is a boundary (R3). -/
def Timebase.atEnd (tb : Timebase) : Bool := decide (tb.counter + 1 = tb.period)

/-- The counter after a tick that is no boundary: it wraps after 4095 (R3). -/
def Timebase.count (tb : Timebase) : Timebase :=
  { tb with counter := if tb.counter = 4095 then 0 else tb.counter + 1, prescaler := 0 }

/-- One tick of a RUNNING timebase (R3). -/
def State.tickTimebase (t : Fin 4) (s : State) : State :=
  if s.tbs[t].atEnd then s.boundary false t
  else (s.modTb t Timebase.count).tickPairs t s

end Sys2Proof.Machine
end

