-- ==== Sys2Proof/Machine/TimebaseRequests.lean ====
section
/-! DEFINITION. The five requests to timebases (R6 to R14). -/

namespace Sys2Proof.Machine

/-- A pending period removed without being applied, with SUPERSEDED if it carried the notify mark (R8 to R12). -/
def State.dropPendingPeriod (t : Fin 4) (s : State) : State :=
  (s.modTb t fun tb => { tb with pendingPeriod := none }).offerIf s.tbs[t].notifySeq
    fun seq => .superseded seq (.tbPeriod t)

/-- TB_CONFIG (R8). -/
def takeTbConfig (p : List Byte) (s : State) : Reply × State :=
  if p.length ≠ 4 then refuse .badLength s
  else
    match element? 4 (u8 p 0), divider? (u8 p 1), period? (u16 p 2) with
    | some t, some d, some period =>
      if s.tbs[t].state = .running then refuse .state s
      else accept .ok []
        ((s.dropPendingPeriod t).modTb t fun tb => { tb with divider := d, period := period })
    | _, _, _ => refuse .badArg s

/-- A timebase as TB_START sets it going, before its start boundary (R6). -/
def Timebase.start (tb : Timebase) : Timebase :=
  { tb with state := .running, prescaler := 0, counter := 0, stretch := false, slot := 0 }

/-- Every timebase of a set is set going, then their start boundaries are taken in either order, each whole (R6). -/
def State.startTbs (set : List (Fin 4)) (s : State) : State :=
  forEachInAnyOrder set (State.boundary true)
    (s.mapTbs fun t tb => if set.contains t then tb.start else tb)

/-- TB_START (R6). -/
def takeTbStart (p : List Byte) (s : State) : Reply × State :=
  if p.length ≠ 1 then refuse .badLength s
  else
    match tbSet? (u8 p 0) with
    | none => refuse .badArg s
    | some set =>
      if set.any fun t => s.tbs[t].state == .running then refuse .state s
      else accept .ok [] (s.startTbs set)

/-- A RUNNING timebase halts; a HALTED one stays as it is (R7). -/
def Timebase.stop (tb : Timebase) : Timebase :=
  match tb.state with
  | .running => { tb with state := .halted, counter := 0, stretch := false }
  | .halted => tb

/-- TB_STOP (R7); the enabled pairs on a timebase that halts go low (R84). -/
def takeTbStop (p : List Byte) (s : State) : Reply × State :=
  if p.length ≠ 1 then refuse .badLength s
  else
    match tbSet? (u8 p 0) with
    | none => refuse .badArg s
    | some set =>
      accept .ok []
        ((s.mapTbs fun t tb => if set.contains t then tb.stop else tb).haltPairs
          fun t => set.contains t && s.tbs[t].state == .running)

/-- TB_PERIOD (R9 to R12). -/
def takeTbPeriod (seq : Byte) (p : List Byte) (s : State) : Reply × State :=
  if p.length ≠ 5 then refuse .badLength s
  else
    match element? 4 (u8 p 0), period? (u16 p 1), timing? (u8 p 3), mark? (u8 p 4) with
    | some t, some period, some timing, some notify =>
      match s.tbs[t].state, timing with
      | .halted, _ =>
        accept .ok [] ((s.dropPendingPeriod t).modTb t fun tb => { tb with period := period })
      | .running, .boundary =>
        accept .pending []
          ((s.dropPendingPeriod t).modTb t fun tb =>
            { tb with pendingPeriod := some { period := period, notify := if notify then some seq else none } })
      | .running, .now =>
        if s.tbs[t].counter < period then
          accept .ok [] ((s.dropPendingPeriod t).modTb t fun tb => { tb with period := period })
        else
          accept .ok []
            (((s.dropPendingPeriod t).modTb t fun tb => { tb with period := period, stretch := true }).offer
              (.periodStretched t s.tbs[t].counter period))
    | _, _, _, _ => refuse .badArg s

/-- TB_QUERY (R14). -/
def takeTbQuery (p : List Byte) (s : State) : Reply × State :=
  if p.length ≠ 1 then refuse .badLength s
  else
    match element? 4 (u8 p 0) with
    | some t => accept .ok s.tbs[t].payload s
    | none => refuse .badArg s

end Sys2Proof.Machine
end

