-- ==== Sys2Proof/Machine/Handler.lean ====
section
/-! DEFINITION. The request handler (R137 to R141), the transmit arbiter (R130, R131) and the delivery of a CRC-valid frame (R124, R128). -/

namespace Sys2Proof.Machine

/-! ## The transmit arbiter (R131) -/

/-- A frame begins on TXD with its first start bit, at the current rate (R122, R130). -/
def Link.send (l : Link) (kind : FrameKind) (body : List Byte) : Link :=
  { l with tx := .sending { kind := kind, bytes := frameBytes body } l.rate 0 }

/-- The oldest response leaves the holding queue and begins transmission, with DROPPED if the mark is set, which is
then cleared (R128, R130). -/
def Link.sendResponse (l : Link) (r : Response) (rest : List Response) : Link :=
  ({ l with holding := rest, droppedMark := false }).send (.response r.tied)
    ({ r with dropped := l.droppedMark }).body

/-- The oldest unsent record, and the records with its sent flag set (R151). -/
def sendOldest : List Record → Option (Record × List Record)
  | [] => none
  | r :: rest =>
    if r.sent then (sendOldest rest).map fun x => (x.1, r :: x.2)
    else some (r, { r with sent := true } :: rest)

/-- The arbiter's choice of a report, within the window (R131, R151). -/
def State.sendReport (s : State) : State :=
  if s.reports.sentCount < s.reports.window then
    match sendOldest s.reports.records with
    | none => s
    | some (r, records) =>
      { s with link := s.link.send .report r.body, reports := { s.reports with records := records } }
  else s

/-- The arbiter's choice while the transmitter is IDLE: the oldest held response, else a report (R131). -/
def State.arbitrate (s : State) : State :=
  match s.link.tx with
  | .idle =>
    match s.link.holding with
    | r :: rest => s.modLink fun l => l.sendResponse r rest
    | [] => s.sendReport
  | _ => s

/-! ## Taking a request (R137) -/

/-- The effect and answer of a request, checked by its owning rule; an unknown kind is refused with BAD_TYPE
(R138, R157). -/
def perform (f : Frame) (s : State) : Reply × State :=
  match requestKindOf f.type with
  | none => refuse .badType s
  | some kind =>
    match kind with
    | .getInfo => takeGetInfo f.payload s
    | .getStatus => takeGetStatus f.payload s
    | .setLink => takeSetLink f.payload s
    | .resetDevice => takeResetDevice f.payload s
    | .tbConfig => takeTbConfig f.payload s
    | .tbStart => takeTbStart f.payload s
    | .tbStop => takeTbStop f.payload s
    | .tbPeriod => takeTbPeriod f.seq f.payload s
    | .tbQuery => takeTbQuery f.payload s
    | .chQuota => takeChQuota f.payload s
    | .segAppend => takeSegAppend f.payload s
    | .segReplace => takeSegReplace f.seq f.payload s
    | .chConfig => takeChConfig f.payload s
    | .chLevel => takeChLevel f.seq f.payload s
    | .chStart => takeChStart f.payload s
    | .chPause => takeChPause f.payload s
    | .chResume => takeChResume f.payload s
    | .chFlush => takeChFlush f.payload s
    | .chQuery => takeChQuery f.payload s
    | .rpDefine => takeRpDefine f.payload s
    | .rpQuery => takeRpQuery f.payload s
    | .pairConfig => takePairConfig f.payload s
    | .routeSet => takeRouteSet f.payload s
    | .pinConfig => takePinConfig f.payload s
    | .outQuery => takeOutQuery f.payload s
    | .faultConfig => takeFaultConfig f.payload s
    | .faultClear => takeFaultClear f.payload s
    | .faultQuery => takeFaultQuery f.payload s
    | .smConfig => takeSmConfig f.payload s
    | .smQuery => takeSmQuery f.payload s
    | .rptAck => takeRptAck f.payload s
    | .rptResend => takeRptResend f.payload s

/-- The response type: the request's code plus 0x80, or 0xFF for an unknown kind (R157). -/
def responseType (type : Byte) : Byte := if (requestKindOf type).isSome then type + 0x80 else 0xFF

/-- The response built for a request, REPLAYED and DROPPED clear (R140). -/
def buildResponse (f : Frame) (r : Reply) : Response where
  seq := f.seq
  type := responseType f.type
  status := r.status
  replayed := false
  dropped := false
  payload := r.payload
  tied := r.tied

/-- A response at the tail of the holding queue (R129). -/
def State.hold (r : Response) (s : State) : State := s.modLink fun l => { l with holding := l.holding ++ [r] }

/-- The stored response that answers a repeated frame: SEQ and CRC both match (R141). -/
def State.replayOf (s : State) (f : Frame) : Option Response :=
  match s.replay with
  | some e => if e.seq = f.seq ∧ e.crc = f.crc then some e.response else none
  | none => none

/-- A request taken and handled (R137, steps 2 to 6): answered from the replay memory, or performed, answered and
remembered without its tied effect (R141). -/
def State.handle (f : Frame) (s : State) : State :=
  match s.replayOf f with
  | some r => s.hold { r with replayed := true }
  | none =>
    let result := perform f s
    let response := buildResponse f result.1
    { result.2.hold response with
      replay := some { seq := f.seq, crc := f.crc, response := { response with tied := .none } } }

/-- A frame waits and the holding queue has room (R137). -/
def State.canTake (s : State) : Bool :=
  !s.link.inbound.isEmpty && decide (s.link.holding.length < Config.holdingSize)

/-- The oldest frame of the inbound buffer is taken (R137). -/
def State.takeRequest (s : State) : State :=
  match s.link.inbound with
  | [] => s
  | f :: rest => (s.modLink fun l => { l with inbound := rest }).handle f

/-- What the link does at the end of an event: the arbiter chooses, and a response that leaves the holding queue lets
the handler take a waiting frame (R131, R137). The inbound buffer holds at most two frames. -/
def State.settleFor : Nat → State → State
  | 0, s => s.arbitrate
  | n + 1, s =>
    let s' := s.arbitrate
    if s'.canTake then State.settleFor n s'.takeRequest else s'

def State.settle (s : State) : State := State.settleFor Config.inboundSize s

/-! ## Delivery of a CRC-valid frame (R124) -/

/-- The host is heard: the silence timer restarts unless the limit is 0, and SILENCE becomes inactive (R100, R133). -/
def State.hearHost (s : State) : State :=
  (s.modLink fun l => { l with silenceTimer := if l.silenceLimit = 0 then none else some 0 }).deactivateFault silence

/-- A counter that stays at 255 (R127). -/
def countUp (n : Nat) : Nat := min 255 (n + 1)

/-- The frame is offered to the inbound buffer: appended, or dropped by a full one (R128). -/
def Link.offerFrame (l : Link) (f : Frame) : Link :=
  if l.inbound.length < Config.inboundSize then { l with inbound := l.inbound ++ [f] }
  else { l with droppedFrames := countUp l.droppedFrames, droppedMark := true }

/-- A CRC-valid frame arrives (R124): the host is heard, the frame is offered to the buffer and taken if the holding
queue has room; then the arbiter chooses (R137). A report already eligible was chosen before this event (R131). -/
def State.deliver (f : Frame) (s : State) : State :=
  let s1 := s.arbitrate.hearHost.modLink fun l => l.offerFrame f
  (if s1.canTake then s1.takeRequest else s1).settle

end Sys2Proof.Machine
end

