-- ==== Sys2Proof/Machine/LinkEvents.lean ====
section
/-! DEFINITION. The events of the serial link: characters, edges of RXD, frame ends, the link break (chapter 9). -/

namespace Sys2Proof.Machine

/-! ## The receiver (R123 to R126) -/

/-- The frame in progress is discarded: HUNT, the inter-byte timer stopped (R123, R125, R126). -/
def Link.discardFrame (l : Link) : Link := { l with receiver := .hunt, interByte := none }

def Link.countFraming (l : Link) : Link := { l with framingErrors := countUp l.framingErrors }

/-- A byte is stored and the inter-byte timer restarts (R123, R125). -/
def Link.receiveTo (l : Link) (r : Receiver) : Link := { l with receiver := r, interByte := some 0 }

/-- The frame a body spells, with the CRC received (R128, R157). LEN is at least 2 (R123). -/
def frameOf (body : List Byte) (crc : BitVec 16) : Frame where
  seq := byteAt body 0
  type := byteAt body 1
  payload := body.drop 2
  crc := crc

/-- The second CRC byte: the frame is checked (R124). -/
def State.checkFrame (len : Byte) (body : List Byte) (crc : BitVec 16) (s : State) : State :=
  let s' := s.modLink Link.discardFrame
  if crc16 (len :: body) = crc then s'.deliver (frameOf body crc)
  else s'.modLink fun l => { l with crcErrors := countUp l.crcErrors }

/-- A byte received, by the receiver's state (R123, Table 45). -/
def State.receiveByte (b : Byte) (s : State) : State :=
  match s.link.receiver with
  | .hunt => if b = Config.syncByte then s.modLink fun l => l.receiveTo .length else s
  | .length =>
    if 2 ≤ b.toNat ∧ b.toNat ≤ 198 then s.modLink fun l => l.receiveTo (.body b [])
    else s.modLink fun l => l.countFraming.discardFrame
  | .body len bytes =>
    s.modLink fun l => l.receiveTo
      (if bytes.length + 1 < len.toNat then .body len (bytes ++ [b]) else .check len (bytes ++ [b]) none)
  | .check len bytes none => s.modLink fun l => l.receiveTo (.check len bytes (some b))
  | .check len bytes (some high) => s.checkFrame len bytes (high ++ b)

/-- RXD is high now: a rise since it was last low sets the break detector's count to 0 (R134). -/
def Link.rxdHigh (l : Link) : Link := { l with rxd := true, breakCount := if l.rxd then l.breakCount else 0 }

/-- CHARACTER_RECEIVED: the stop bit is sampled high, and the receiver acts on the byte (R122, R123). RXD is high at that
sample, whatever the level was before the command (log entry 10, DEDUCED). -/
def execCharacterReceived (b : Byte) (s : State) : Host.Outcome State Fault Refusal :=
  .next (if s.held then s
    else ((s.modLink fun l => { l.rxdHigh with rxChar := none }).receiveByte b).settle)

/-- CHARACTER_FAULT: the stop bit is sampled low (R126), so RXD is low there (log entry 10, DEDUCED). -/
def execCharacterFault (s : State) : Host.Outcome State Fault Refusal :=
  .next (if s.held then s
    else s.modLink fun l => { l.countFraming.discardFrame with rxChar := none, rxd := false })

/-- RXD_RISING_EDGE (R134). -/
def execRxdRisingEdge (s : State) : Host.Outcome State Fault Refusal :=
  .next (s.modLink Link.rxdHigh)

/-- RXD_FALLING_EDGE: a character begins when RXD was high and the receiver is not within one (R122); while RST_N
holds the part in reset the line alone changes. -/
def execRxdFallingEdge (s : State) : Host.Outcome State Fault Refusal :=
  .next (s.modLink fun l =>
    { l with
      rxd := false
      rxChar := if l.rxd && l.rxChar.isNone && !s.held then some { age := 0, bits := [] } else l.rxChar })

/-- INTER_BYTE_TIMEOUT as it reaches the link (R125). -/
def Link.interByteExpires (l : Link) : Link := { l.discardFrame with timeouts := countUp l.timeouts }

/-! ## The transmitter (R130 to R132) -/

/-- The pending rate becomes the current rate of both directions; a character and a frame being received are
abandoned (R132). A pending rate equal to the current one changes nothing (log entry 14). A
character whose stop bit's sample is due at this same clock edge and has not been taken is still being received, and is
abandoned too (log entry 26, DEDUCED). -/
def Link.applyRate (l : Link) : Link :=
  match l.pendingRate with
  | none => l
  | some r =>
    if r = l.rate then { l with pendingRate := none }
    else { l.discardFrame with rate := r, pendingRate := none, rxChar := none }

/-- The effect tied to a completed response (R130, step 2). -/
def State.applyTied (t : Tied) (s : State) : State :=
  match t with
  | .none => s
  | .rate => s.modLink Link.applyRate
  | .softReset => s.afterReset .soft

/-- TRANSMIT_COMPLETION (R130): IDLE, the tied effect, the arbiter's choice. An aborted frame has none (R135). -/
def execTransmitCompletion (s : State) : Host.Outcome State Fault Refusal :=
  match s.link.tx with
  | .sending frame _ _ =>
    let s1 := s.modLink fun l => { l with tx := .idle }
    let s2 := match frame.kind with
      | .response tied => s1.applyTied tied
      | .report => s1
    .next s2.settle
  | .idle => .next s
  | .aborted _ _ _ => .next s

/-- ABORTED_FRAME_END (R135). -/
def execAbortedFrameEnd (s : State) : Host.Outcome State Fault Refusal :=
  match s.link.tx with
  | .aborted _ _ _ => .next (s.modLink fun l => { l with tx := .idle }).settle
  | .idle => .next s
  | .sending _ _ _ => .next s

/-! ## The link break (R135) -/

/-- A frame in flight is aborted: only its character on TXD is completed, at the old rate (R135, step 2). -/
def Transmitter.abort : Transmitter → Transmitter
  | .idle => .idle
  | .sending frame rate age => .aborted (frame.cutAt rate age) rate age
  | .aborted frame rate age => .aborted frame rate age

/-- The link's own part of a link break (R135, steps 1 to 3). -/
def Link.break (l : Link) : Link :=
  { l.discardFrame with
    rxChar := none
    inbound := []
    holding := []
    tx := l.tx.abort
    pendingRate := none
    rate := .b115200 }

/-- A link break (R135, R142, R154); the arbiter's choice follows at the end of the event. -/
def State.breakLink (s : State) : State :=
  { s.modLink Link.break with
    replay := none
    reports := s.reports.unsendAll }

end Sys2Proof.Machine
end

