-- ==== Sys2Proof/Machine/RequestEvents.lean ====
section
/-! DEFINITION. The commands that are request frames: each is the arrival, CRC-valid, of one whole request frame of its kind (R124, R128, R137); its effect is that of `perform` (log entry 6). -/

namespace Sys2Proof.Machine

/-- The frame of a request. -/
def requestFrame (seq type : Byte) (payload : List Byte) : Frame where
  seq := seq
  type := type
  payload := payload
  crc := bodyCrc (seq :: type :: payload)

/-- The receiver after the last CRC byte of a frame: HUNT, its buffer empty, its timer stopped (R123). DESIGN CHOICE (log
entry 28): the level of RXD, the break count and a character in progress stay as they are, although the byte's stop bit
is high. -/
def Link.afterFrame (l : Link) : Link := { l with receiver := .hunt, interByte := none }

/-- A whole request frame arrives, unless RST_N holds the part in reset (section 6.6). -/
def receiveRequest (type seq : Byte) (payload : List Byte) (s : State) : State :=
  if s.held then s else (s.modLink Link.afterFrame).deliver (requestFrame seq type payload)

/-- UNKNOWN_REQUEST_KIND (R157). -/
def execUnknownRequestKind (seq type : Byte) (payload : List Byte) (s : State) : Host.Outcome State Fault Refusal :=
  .next (receiveRequest type seq payload s)

/-- GET_INFO (R143): `takeGetInfo`. -/
def execGetInfo (seq : Byte) (payload : List Byte) (s : State) : Host.Outcome State Fault Refusal :=
  .next (receiveRequest RequestKind.getInfo.code seq payload s)

/-- GET_STATUS (R144): `takeGetStatus`. -/
def execGetStatus (seq : Byte) (payload : List Byte) (s : State) : Host.Outcome State Fault Refusal :=
  .next (receiveRequest RequestKind.getStatus.code seq payload s)

/-- SET_LINK (R145): `takeSetLink`. -/
def execSetLink (seq : Byte) (payload : List Byte) (s : State) : Host.Outcome State Fault Refusal :=
  .next (receiveRequest RequestKind.setLink.code seq payload s)

/-- RESET_DEVICE (R146): `takeResetDevice`. -/
def execResetDevice (seq : Byte) (payload : List Byte) (s : State) : Host.Outcome State Fault Refusal :=
  .next (receiveRequest RequestKind.resetDevice.code seq payload s)

/-- TB_CONFIG (R8): `takeTbConfig`. -/
def execTbConfig (seq : Byte) (payload : List Byte) (s : State) : Host.Outcome State Fault Refusal :=
  .next (receiveRequest RequestKind.tbConfig.code seq payload s)

/-- TB_START (R6): `takeTbStart`. -/
def execTbStart (seq : Byte) (payload : List Byte) (s : State) : Host.Outcome State Fault Refusal :=
  .next (receiveRequest RequestKind.tbStart.code seq payload s)

/-- TB_STOP (R7): `takeTbStop`. -/
def execTbStop (seq : Byte) (payload : List Byte) (s : State) : Host.Outcome State Fault Refusal :=
  .next (receiveRequest RequestKind.tbStop.code seq payload s)

/-- TB_PERIOD (R9 to R12): `takeTbPeriod`. -/
def execTbPeriod (seq : Byte) (payload : List Byte) (s : State) : Host.Outcome State Fault Refusal :=
  .next (receiveRequest RequestKind.tbPeriod.code seq payload s)

/-- TB_QUERY (R14): `takeTbQuery`. -/
def execTbQuery (seq : Byte) (payload : List Byte) (s : State) : Host.Outcome State Fault Refusal :=
  .next (receiveRequest RequestKind.tbQuery.code seq payload s)

/-- CH_QUOTA (R26): `takeChQuota`. -/
def execChQuota (seq : Byte) (payload : List Byte) (s : State) : Host.Outcome State Fault Refusal :=
  .next (receiveRequest RequestKind.chQuota.code seq payload s)

/-- SEG_APPEND (R27, R28): `takeSegAppend`. -/
def execSegAppend (seq : Byte) (payload : List Byte) (s : State) : Host.Outcome State Fault Refusal :=
  .next (receiveRequest RequestKind.segAppend.code seq payload s)

/-- SEG_REPLACE (R29, R30, R58): `takeSegReplace`. -/
def execSegReplace (seq : Byte) (payload : List Byte) (s : State) : Host.Outcome State Fault Refusal :=
  .next (receiveRequest RequestKind.segReplace.code seq payload s)

/-- CH_CONFIG (R38): `takeChConfig`. -/
def execChConfig (seq : Byte) (payload : List Byte) (s : State) : Host.Outcome State Fault Refusal :=
  .next (receiveRequest RequestKind.chConfig.code seq payload s)

/-- CH_LEVEL (R53): `takeChLevel`. -/
def execChLevel (seq : Byte) (payload : List Byte) (s : State) : Host.Outcome State Fault Refusal :=
  .next (receiveRequest RequestKind.chLevel.code seq payload s)

/-- CH_START (R54): `takeChStart`. -/
def execChStart (seq : Byte) (payload : List Byte) (s : State) : Host.Outcome State Fault Refusal :=
  .next (receiveRequest RequestKind.chStart.code seq payload s)

/-- CH_PAUSE (R55): `takeChPause`. -/
def execChPause (seq : Byte) (payload : List Byte) (s : State) : Host.Outcome State Fault Refusal :=
  .next (receiveRequest RequestKind.chPause.code seq payload s)

/-- CH_RESUME (R56): `takeChResume`. -/
def execChResume (seq : Byte) (payload : List Byte) (s : State) : Host.Outcome State Fault Refusal :=
  .next (receiveRequest RequestKind.chResume.code seq payload s)

/-- CH_FLUSH (R57): `takeChFlush`. -/
def execChFlush (seq : Byte) (payload : List Byte) (s : State) : Host.Outcome State Fault Refusal :=
  .next (receiveRequest RequestKind.chFlush.code seq payload s)

/-- CH_QUERY (R59): `takeChQuery`. -/
def execChQuery (seq : Byte) (payload : List Byte) (s : State) : Host.Outcome State Fault Refusal :=
  .next (receiveRequest RequestKind.chQuery.code seq payload s)

/-- RP_DEFINE (R64): `takeRpDefine`. -/
def execRpDefine (seq : Byte) (payload : List Byte) (s : State) : Host.Outcome State Fault Refusal :=
  .next (receiveRequest RequestKind.rpDefine.code seq payload s)

/-- RP_QUERY (R75): `takeRpQuery`. -/
def execRpQuery (seq : Byte) (payload : List Byte) (s : State) : Host.Outcome State Fault Refusal :=
  .next (receiveRequest RequestKind.rpQuery.code seq payload s)

/-- PAIR_CONFIG (R78): `takePairConfig`. -/
def execPairConfig (seq : Byte) (payload : List Byte) (s : State) : Host.Outcome State Fault Refusal :=
  .next (receiveRequest RequestKind.pairConfig.code seq payload s)

/-- ROUTE_SET (R93): `takeRouteSet`. -/
def execRouteSet (seq : Byte) (payload : List Byte) (s : State) : Host.Outcome State Fault Refusal :=
  .next (receiveRequest RequestKind.routeSet.code seq payload s)

/-- PIN_CONFIG (R94): `takePinConfig`. -/
def execPinConfig (seq : Byte) (payload : List Byte) (s : State) : Host.Outcome State Fault Refusal :=
  .next (receiveRequest RequestKind.pinConfig.code seq payload s)

/-- OUT_QUERY (R95): `takeOutQuery`. -/
def execOutQuery (seq : Byte) (payload : List Byte) (s : State) : Host.Outcome State Fault Refusal :=
  .next (receiveRequest RequestKind.outQuery.code seq payload s)

/-- FAULT_CONFIG (R108): `takeFaultConfig`. -/
def execFaultConfig (seq : Byte) (payload : List Byte) (s : State) : Host.Outcome State Fault Refusal :=
  .next (receiveRequest RequestKind.faultConfig.code seq payload s)

/-- FAULT_CLEAR (R106, R107): `takeFaultClear`. -/
def execFaultClear (seq : Byte) (payload : List Byte) (s : State) : Host.Outcome State Fault Refusal :=
  .next (receiveRequest RequestKind.faultClear.code seq payload s)

/-- FAULT_QUERY (R109): `takeFaultQuery`. -/
def execFaultQuery (seq : Byte) (payload : List Byte) (s : State) : Host.Outcome State Fault Refusal :=
  .next (receiveRequest RequestKind.faultQuery.code seq payload s)

/-- SM_CONFIG (R118): `takeSmConfig`. -/
def execSmConfig (seq : Byte) (payload : List Byte) (s : State) : Host.Outcome State Fault Refusal :=
  .next (receiveRequest RequestKind.smConfig.code seq payload s)

/-- SM_QUERY (R119): `takeSmQuery`. -/
def execSmQuery (seq : Byte) (payload : List Byte) (s : State) : Host.Outcome State Fault Refusal :=
  .next (receiveRequest RequestKind.smQuery.code seq payload s)

/-- RPT_ACK (R152): `takeRptAck`. -/
def execRptAck (seq : Byte) (payload : List Byte) (s : State) : Host.Outcome State Fault Refusal :=
  .next (receiveRequest RequestKind.rptAck.code seq payload s)

/-- RPT_RESEND (R153): `takeRptResend`. -/
def execRptResend (seq : Byte) (payload : List Byte) (s : State) : Host.Outcome State Fault Refusal :=
  .next (receiveRequest RequestKind.rptResend.code seq payload s)

end Sys2Proof.Machine
end

