-- ==== Sys2Proof/Machine/ResetEvents.lean ====
section
/-! DEFINITION. Power-on reset, the assertion of RST_N and pin reset (section 6.6, R136, R147, R155). -/

namespace Sys2Proof.Machine

/-- POWER_ON_RESET: every block takes its reset values, RESTARTED carries POWER_ON, and the arbiter sends it (R147,
R155). -/
def execPowerOnReset (s : State) : Host.Outcome State Fault Refusal :=
  .next (s.afterReset .powerOn).settle

/-- RST_N_ASSERT: the part is held at its reset values, a frame in flight ends, TXD goes high, every pin floats
(section 6.6, R136). -/
def execRstNAssert (s : State) : Host.Outcome State Fault Refusal :=
  .next s.heldInReset

/-- PIN_RESET: the rising edge of RST_N; RESTARTED carries PIN (R147, R155). -/
def execPinReset (s : State) : Host.Outcome State Fault Refusal :=
  .next (s.afterReset .pin).settle

end Sys2Proof.Machine
end

