-- ==== Sys2Proof/Machine/TimeEvents.lean ====
section
/-! DEFINITION. The events of time: ticks, boundaries, samples, millisecond ticks and the expiries they bring (R2, R3, R66, R99, R114, R125, R133, R134). -/

namespace Sys2Proof.Machine

/-- What an event of the running part ends with: the arbiter's choice (R131). While RST_N holds the part in reset no
event occurs (section 6.6). -/
def State.event (f : State → State) (s : State) : Host.Outcome State Fault Refusal :=
  .next (if s.held then s else (f s).settle)

/-! ## Timebase ticks -/

/-- TIMEBASE_TICK (R3): a tick of a RUNNING timebase, which is its boundary when the counter reaches P; a HALTED one
produces none (R1). -/
def execTimebaseTick (t : Fin 4) (s : State) : Host.Outcome State Fault Refusal :=
  s.event fun s => if s.tbs[t].state = .running then s.tickTimebase t else s

/-- BOUNDARY (R4): the tick of a RUNNING timebase whose counter reaches P. No other tick is a boundary (R3), and a
HALTED timebase has none (R7). -/
def execBoundary (t : Fin 4) (s : State) : Host.Outcome State Fault Refusal :=
  s.event fun s => if s.tbs[t].state = .running ∧ s.tbs[t].atEnd = true then s.boundary false t else s

/-- The tick now due of the even channel's timebase, when it is no boundary, brings a rise delay to D: no opposite edge
of x removes it first (R82). -/
def State.riseDue (s : State) (k : Fin 8) (count : Option Nat) (x : Bool) : Bool :=
  let c := evenOf k
  let tb := s.tbs[s.chans[c].tb]
  s.pairActs k && !tb.atEnd && s.chans[c].signalOn tb.count == x &&
    match count with
    | some n => decide (s.pairs[k].deadTime ≤ n + 1)
    | none => false

/-- PAIR_RISE_DELAY_EXPIRY (R82): the signal the delay belongs to becomes high and the delay becomes absent. -/
def execPairRiseDelayExpiry (k : Fin 8) (s : State) : Host.Outcome State Fault Refusal :=
  s.event fun s =>
    if s.riseDue k s.pairs[k].riseA true then s.modPair k fun p => { p with a := true, riseA := none }
    else if s.riseDue k s.pairs[k].riseB false then s.modPair k fun p => { p with b := true, riseB := none }
    else s

/-! ## Input samples -/

/-- INPUT_SAMPLE (R99, R113): FLT0 and FLT1 in either order, each unit its own input. -/
def execInputSample (lines : InputLines) (s : State) : Host.Outcome State Fault Refusal :=
  s.event fun s =>
    let s1 := { s with inputs := lines, samplePhase := 0 }
    (s1.mapUnits fun u unit => unit.sample lines.tach[u]).sampleFaults lines.flt

/-! ## The millisecond tick -/

/-- Every timer that counts millisecond ticks (R2). -/
def MsTimer.all : List MsTimer :=
  (List.finRange 8).map .gather ++ (List.finRange 4).map .window ++ [.silence, .interByte, .breakDetector]

/-- Expiry of the host-silence timer (R133, R100). -/
def State.expireSilence (s : State) : State :=
  (s.modLink fun l => { l with silenceTimer := none }).activateFault silence

/-- What a timer does at its expiry, by its kind (R69, R114, R133, R125, R134). -/
def State.expire (t : MsTimer) (s : State) : State :=
  match t with
  | .gather p => s.expireGathering p
  | .window u => s.expireWindow u
  | .silence => s.expireSilence
  | .interByte => s.modLink Link.interByteExpires
  | .breakDetector => (s.modLink fun l => { l with breakCount := Config.breakLimit }).breakLink

/-- A timer expires if it is still due when its turn comes (R74, R110, R120). DESIGN CHOICE (log entry 30): each expiry of
a tick is an event of its own and ends with the arbiter's choice (R131), so a report that one expiry queues may begin and be
aborted by a link break of the same tick, or come after the break (R156). -/
def State.expireIfDue (t : MsTimer) (s : State) : State := if s.due t then (s.expire t).settle else s

/-- An elapsed count one higher. -/
def countMs (counts : Bool) (timer : Option Nat) : Option Nat := if counts then timer.map (· + 1) else timer

/-- The timer counts this millisecond tick: it does not expire at it, and its part has not been taken already. -/
def State.counts (s : State) (t : MsTimer) : Bool := !s.due t && s.untaken t

/-- Every running timer that does not expire at this tick counts it (R66, R114, R125, R133); the break detector counts
it while RXD is low, up to its limit (R134). -/
def State.advanceTimers (s : State) : State :=
  { s with
    points := Vector.ofFn fun p =>
      { s.points[p] with timer := countMs (s.counts (.gather p)) s.points[p].timer }
    units := Vector.ofFn fun u =>
      { s.units[u] with timer := countMs (s.counts (.window u)) s.units[u].timer }
    link := { s.link with
      silenceTimer := countMs (s.counts .silence) s.link.silenceTimer
      interByte := countMs (s.counts .interByte) s.link.interByte
      breakCount :=
        if s.counts .breakDetector && !s.link.rxd && decide (s.link.breakCount < Config.breakLimit) then
          s.link.breakCount + 1
        else s.link.breakCount } }

/-- The timers that expire at this tick. -/
def State.dueTimers (s : State) : List MsTimer := MsTimer.all.filter fun t => s.due t && s.untaken t

/-- The millisecond tick (R2): the timers that do not expire count it, the others expire in either order. -/
def State.tickMillisecond (s : State) : State :=
  let s' := forEachInAnyOrder s.dueTimers State.expireIfDue s.advanceTimers
  { s' with msDone := [], msPhase := 0 }

/-- MILLISECOND_TICK (R2). -/
def execMillisecondTick (s : State) : Host.Outcome State Fault Refusal :=
  s.event State.tickMillisecond

/-- One timer's part of the millisecond tick now due, taken by its own row ahead of the rest of that tick
(log entry 4); a timer that is not due does not expire. -/
def State.takeExpiry (t : MsTimer) (s : State) : State :=
  if s.due t && s.untaken t then
    let s' := s.expire t
    { s' with msDone := t :: s'.msDone }
  else s

/-- GATHERING_TIMER_EXPIRY (R69). -/
def execGatheringTimerExpiry (p : Fin 8) (s : State) : Host.Outcome State Fault Refusal :=
  s.event (State.takeExpiry (.gather p))

/-- SPEED_WINDOW_EXPIRY (R114). -/
def execSpeedWindowExpiry (u : Fin 4) (s : State) : Host.Outcome State Fault Refusal :=
  s.event (State.takeExpiry (.window u))

/-- HOST_SILENCE_EXPIRY (R133). -/
def execHostSilenceExpiry (s : State) : Host.Outcome State Fault Refusal :=
  s.event (State.takeExpiry .silence)

/-- INTER_BYTE_TIMEOUT (R125). -/
def execInterByteTimeout (s : State) : Host.Outcome State Fault Refusal :=
  s.event (State.takeExpiry .interByte)

/-- LINK_BREAK (R134, R135). -/
def execLinkBreak (s : State) : Host.Outcome State Fault Refusal :=
  s.event (State.takeExpiry .breakDetector)

end Sys2Proof.Machine
end

