-- ==== Sys2Proof/Machine/Dispatch.lean ====
section
/-! DEFINITION. One arm for each command: its meaning. -/

namespace Sys2Proof.Machine

def exec (i : Instr) (s : State) : Host.Outcome State Fault Refusal :=
  match i with
  | .powerOnReset => Sys2Proof.Machine.execPowerOnReset s
  | .rstNAssert => Sys2Proof.Machine.execRstNAssert s
  | .pinReset => Sys2Proof.Machine.execPinReset s
  | .millisecondTick => Sys2Proof.Machine.execMillisecondTick s
  | .timebaseTick tb => Sys2Proof.Machine.execTimebaseTick tb s
  | .boundary tb => Sys2Proof.Machine.execBoundary tb s
  | .pairRiseDelayExpiry pair => Sys2Proof.Machine.execPairRiseDelayExpiry pair s
  | .inputSample lines => Sys2Proof.Machine.execInputSample lines s
  | .gatheringTimerExpiry point => Sys2Proof.Machine.execGatheringTimerExpiry point s
  | .speedWindowExpiry unit => Sys2Proof.Machine.execSpeedWindowExpiry unit s
  | .hostSilenceExpiry => Sys2Proof.Machine.execHostSilenceExpiry s
  | .interByteTimeout => Sys2Proof.Machine.execInterByteTimeout s
  | .linkBreak => Sys2Proof.Machine.execLinkBreak s
  | .characterReceived byte => Sys2Proof.Machine.execCharacterReceived byte s
  | .characterFault => Sys2Proof.Machine.execCharacterFault s
  | .transmitCompletion => Sys2Proof.Machine.execTransmitCompletion s
  | .abortedFrameEnd => Sys2Proof.Machine.execAbortedFrameEnd s
  | .unknownRequestKind seq type payload => Sys2Proof.Machine.execUnknownRequestKind seq type payload s
  | .getInfo seq payload => Sys2Proof.Machine.execGetInfo seq payload s
  | .getStatus seq payload => Sys2Proof.Machine.execGetStatus seq payload s
  | .setLink seq payload => Sys2Proof.Machine.execSetLink seq payload s
  | .resetDevice seq payload => Sys2Proof.Machine.execResetDevice seq payload s
  | .tbConfig seq payload => Sys2Proof.Machine.execTbConfig seq payload s
  | .tbStart seq payload => Sys2Proof.Machine.execTbStart seq payload s
  | .tbStop seq payload => Sys2Proof.Machine.execTbStop seq payload s
  | .tbPeriod seq payload => Sys2Proof.Machine.execTbPeriod seq payload s
  | .tbQuery seq payload => Sys2Proof.Machine.execTbQuery seq payload s
  | .chQuota seq payload => Sys2Proof.Machine.execChQuota seq payload s
  | .segAppend seq payload => Sys2Proof.Machine.execSegAppend seq payload s
  | .segReplace seq payload => Sys2Proof.Machine.execSegReplace seq payload s
  | .chConfig seq payload => Sys2Proof.Machine.execChConfig seq payload s
  | .chLevel seq payload => Sys2Proof.Machine.execChLevel seq payload s
  | .chStart seq payload => Sys2Proof.Machine.execChStart seq payload s
  | .chPause seq payload => Sys2Proof.Machine.execChPause seq payload s
  | .chResume seq payload => Sys2Proof.Machine.execChResume seq payload s
  | .chFlush seq payload => Sys2Proof.Machine.execChFlush seq payload s
  | .chQuery seq payload => Sys2Proof.Machine.execChQuery seq payload s
  | .rpDefine seq payload => Sys2Proof.Machine.execRpDefine seq payload s
  | .rpQuery seq payload => Sys2Proof.Machine.execRpQuery seq payload s
  | .pairConfig seq payload => Sys2Proof.Machine.execPairConfig seq payload s
  | .routeSet seq payload => Sys2Proof.Machine.execRouteSet seq payload s
  | .pinConfig seq payload => Sys2Proof.Machine.execPinConfig seq payload s
  | .outQuery seq payload => Sys2Proof.Machine.execOutQuery seq payload s
  | .faultConfig seq payload => Sys2Proof.Machine.execFaultConfig seq payload s
  | .faultClear seq payload => Sys2Proof.Machine.execFaultClear seq payload s
  | .faultQuery seq payload => Sys2Proof.Machine.execFaultQuery seq payload s
  | .smConfig seq payload => Sys2Proof.Machine.execSmConfig seq payload s
  | .smQuery seq payload => Sys2Proof.Machine.execSmQuery seq payload s
  | .rptAck seq payload => Sys2Proof.Machine.execRptAck seq payload s
  | .rptResend seq payload => Sys2Proof.Machine.execRptResend seq payload s
  | .rxdRisingEdge => Sys2Proof.Machine.execRxdRisingEdge s
  | .rxdFallingEdge => Sys2Proof.Machine.execRxdFallingEdge s

end Sys2Proof.Machine
end

