-- ==== Sys2Proof/Machine/Clock.lean ====
section
/-! DEFINITION. The periods of the 32 MHz reference clock, and the events due at a clock edge (R1, R2, R99, R122, R130, R135). The table has no row for them: they are what a step does when no command waits (log entry 7). -/

namespace Sys2Proof.Machine

/-! ## What one reference period advances -/

/-- The prescaler of a RUNNING timebase counts; a HALTED one's is held (R1). -/
def Timebase.clock (tb : Timebase) : Timebase :=
  match tb.state with
  | .running => { tb with prescaler := tb.prescaler + 1 }
  | .halted => tb

/-- The frame on TXD grows older (R122, R130). -/
def Transmitter.clock : Transmitter → Transmitter
  | .idle => .idle
  | .sending frame rate age => .sending frame rate (age + 1)
  | .aborted frame rate age => .aborted frame rate (age + 1)

/-- The character being received grows older, and at the middle of the start bit's time and of each data bit's the level
of RXD is sampled (R122). -/
def RxChar.clock (r : RxChar) (rate : Rate) (rxd : Bool) : RxChar :=
  { age := r.age + 1
    bits := if r.bits.length < 9 ∧ r.age + 1 = sampleAge rate r.bits.length then r.bits ++ [rxd] else r.bits }

/-- One reference clock period. -/
def State.clockPeriod (s : State) : State :=
  { s.mapTbs (fun _ tb => tb.clock) with
    msPhase := s.msPhase + 1
    samplePhase := s.samplePhase + 1
    link := { s.link with
      tx := s.link.tx.clock
      rxChar := s.link.rxChar.map fun r => r.clock s.link.rate s.link.rxd } }

/-! ## What is due at a clock edge -/

/-- The byte of a character's samples: after the start bit's, the data bits, least significant first (R122). -/
def byteOfBits (bits : List Bool) : Byte :=
  BitVec.ofNat 8 (((List.range 8).map fun i => (bits.getD (i + 1) false).toNat * 2 ^ i).sum)

/-- At the middle of the stop bit's time its sample is due, and that sample is itself the event: with RXD high the
character is received, with RXD low it is a character fault (R122, R126). RXD is read when the event is taken, so an edge
taken before it is an edge before the sample. -/
def RxChar.event (r : RxChar) (rate : Rate) (rxd : Bool) : List Instr :=
  if 9 ≤ r.bits.length ∧ sampleAge rate 9 ≤ r.age then
    [if rxd then .characterReceived (byteOfBits r.bits) else .characterFault]
  else []

/-- The end of the frame on TXD (R130), or of an aborted frame's last character (R135). -/
def Transmitter.event : Transmitter → List Instr
  | .idle => []
  | .sending frame rate age => if frameEnd frame rate ≤ age then [.transmitCompletion] else []
  | .aborted frame rate age => if frameEnd frame rate ≤ age then [.abortedFrameEnd] else []

/-- A tick of a RUNNING timebase whose prescaler has counted its divider (R1). -/
def State.tickEvent (s : State) (t : Fin 4) : List Instr :=
  if s.tbs[t].state = .running ∧ s.tbs[t].divider ≤ s.tbs[t].prescaler then [.timebaseTick t] else []

/-- The events due at this reference clock edge and not yet taken: each ends, when taken, the condition it is due by. -/
def State.clockEvents (s : State) : List Instr :=
  (List.finRange 4).flatMap s.tickEvent
    ++ (if Config.refPerMillisecond ≤ s.msPhase then [.millisecondTick] else [])
    ++ (if Config.refPerSample ≤ s.samplePhase then [.inputSample s.inputs] else [])
    ++ s.link.tx.event
    ++ (match s.link.rxChar with
      | some r => r.event s.link.rate s.link.rxd
      | none => [])

/-- A step with no command waiting. An event due at the present clock edge is taken, any of them where several are due;
each is tested at its turn, so one that an earlier event of the edge has put off does not occur: a reset restarts the
counts (R2, R99, R147), and a rate change or a link break abandons the character on RXD (R132, R135; log entry 26, DEDUCED). With
none due the arbiter's outstanding choice is made and one reference period passes. While RST_N is held low nothing runs
(section 6.6). -/
def State.idleStep (s : State) : Host.Outcome State Fault Refusal :=
  if s.held then .next s
  else
    let r := s.inAnyOrder s.clockEvents
    match r.1 with
    | [] => .next s.arbitrate.clockPeriod
    | c :: _ => exec c r.2

end Sys2Proof.Machine
end

