-- ==== Sys2Proof/Safety.lean ====
section
/-! DEFINITION. The words the statements are made of: what the host sends, what it means that a request is answered, and the invariants (the laws of the spec) as decidable propositions. -/

namespace Sys2Proof.Machine

/-! ## Requests as the host spells them (Tables 60 and 61) -/

/-- The frame of a request command; an event has none, and gets an empty one. -/
def commandFrame (c : Instr) : Frame :=
  match c.body? with
  | some (seq, type, payload) => requestFrame seq type payload
  | none => requestFrame 0 0 []

/-- The payload lengths of Table 61. -/
def lengthOk (k : RequestKind) (n : Nat) : Bool :=
  match k with
  | .getInfo | .resetDevice | .outQuery | .rptResend => n == 0
  | .getStatus | .tbStart | .tbStop | .tbQuery | .chQuery | .rpQuery | .faultClear | .faultQuery | .smQuery
  | .rptAck => n == 1
  | .chStart | .chPause | .chResume | .chFlush | .pinConfig => n == 2
  | .pairConfig => n == 3
  | .tbConfig | .chConfig | .chLevel => n == 4
  | .tbPeriod | .rpDefine => n == 5
  | .routeSet | .faultConfig => n == 6
  | .setLink => n == 10
  | .smConfig => n == 11
  | .chQuota => n == 32
  | .segAppend => (List.range 16).any fun i => n == 1 + 6 * (i + 1)
  | .segReplace => (List.range 16).any fun i => n == 2 + 6 * (i + 1)

/-- A timebase set on the wire: TBn at bit n (R158). -/
def tbSetByte (set : List (Fin 4)) : Byte :=
  BitVec.ofNat 8 (((List.finRange 4).map fun t => if set.contains t then 2 ^ t.val else 0).sum)

/-- A segment valid in form (R21, Table 13). -/
def Segment.valid : Segment → Bool
  | .set level => decide (level ≤ 4096)
  | .ramp target periods => decide (target ≤ 4096) && decide (1 ≤ periods) && decide (periods ≤ 65535)
  | .hold periods => decide (1 ≤ periods) && decide (periods ≤ 65535)
  | .sync _ => true
  | .note _ => true

/-! ## Being ready for a request, and being answered -/

/-- A report may be chosen: an unsent record, and fewer sent ones than the window (R131, R151). -/
def State.reportEligible (s : State) : Bool :=
  decide (s.reports.sentCount < s.reports.window) && s.reports.records.any fun r => !r.sent

/-- Nothing the arbiter or the handler could do at once is left undone (R131, R137): an IDLE transmitter finds no
frame eligible, and a frame waits only for room in the holding queue. -/
def State.Settled (s : State) : Prop :=
  (s.link.tx = .idle → s.link.holding = [] ∧ s.reportEligible = false) ∧
    (s.link.inbound = [] ∨ Config.holdingSize ≤ s.link.holding.length)

/-- The part takes the request `c` at its arrival and performs it: RST_N is not held low, the holding queue has room
(R137), the frame is no replay (R141). -/
def State.Ready (s : State) (c : Instr) : Prop :=
  s.held = false ∧ s.Settled ∧ s.link.holding.length < Config.holdingSize ∧ s.replayOf (commandFrame c) = none

/-- What the arrival of any CRC-valid frame does (R123, R124, R133, R100): the receiver is in HUNT, the host-silence
timer restarts unless the limit is 0, SILENCE is inactive. -/
def State.heard (s : State) : State :=
  { s with
    link := { s.link with
      receiver := .hunt
      interByte := none
      silenceTimer := if s.link.silenceLimit = 0 then none else some 0 }
    faults := s.faults.set 2 { s.faults[2] with active := false } }

/-- The response to `c` with this status, payload and tied effect (R140, R157). -/
def responseTo (c : Instr) (status : Status) (payload : List Byte) (tied : Tied) : Response where
  seq := (commandFrame c).seq
  type := responseType (commandFrame c).type
  status := status
  replayed := false
  dropped := false
  payload := payload
  tied := tied

/-- A state in which a response enters the link: sent at once by an IDLE transmitter, else held (R129, R131). -/
def State.respond (t : State) (r : Response) : State :=
  { t with
    link := match t.link.tx with
      | .idle => t.link.sendResponse r t.link.holding
      | _ => { t.link with holding := t.link.holding ++ [r] } }

/-- The state `t` that a request's effect leaves, with the response given and remembered (R137, steps 5 and 6; R141). -/
def State.answer (t : State) (c : Instr) (status : Status) (payload : List Byte) (tied : Tied) : State :=
  { t.respond (responseTo c status payload tied) with
    replay := some { seq := (commandFrame c).seq, crc := (commandFrame c).crc,
                     response := responseTo c status payload .none } }

/-- Executing `c` in `s` answers with this response and leaves `t`, but for the response itself. -/
def Answered (c : Instr) (s : State) (status : Status) (payload : List Byte) (tied : Tied) (t : State) : Prop :=
  exec c s = .next (t.answer c status payload tied)

/-- Executing `c` in `s` answers OK with no payload and no tied effect, and leaves `t` but for the response. -/
def AnsweredOk (c : Instr) (s t : State) : Prop := Answered c s .ok [] .none t

/-- Executing `c` in `s` refuses it with this status: nothing changes but what any frame's arrival changes (R138). -/
def Refused (c : Instr) (s : State) (status : Status) : Prop := Answered c s status [] .none s.heard

/-! ## Laws 1 and 2: the segment pool (R23, R25) -/

def State.recordsHeld (s : State) : Nat := ((List.finRange 16).map fun c => s.chans[c].holds).sum

/-- Law 1 and Law 2. -/
def State.PoolInv (s : State) : Prop :=
  s.free + s.recordsHeld = Config.poolSize ∧
    (∀ c : Fin 16, s.chans[c].holds ≤ s.chans[c].quota) ∧
    ((List.finRange 16).map fun c => s.chans[c].quota).sum ≤ Config.poolSize

/-! ## The timebase record (R3, Table 7) -/

def Timebase.Inv (tb : Timebase) : Prop :=
  tb.divider ∈ [1, 2, 4, 8, 16, 32, 64, 128] ∧ 16 ≤ tb.period ∧ tb.period ≤ 4096 ∧
    (∀ p ∈ tb.pendingPeriod, 16 ≤ p.period ∧ p.period ≤ 4096) ∧
    tb.counter < 4096 ∧
    (tb.state = .running → tb.stretch = false → tb.counter < tb.period) ∧
    (tb.state = .halted → tb.counter = 0 ∧ tb.stretch = false)

/-- R3: a counter is below 4096, outside a stretched period below the period, and 0 while HALTED. -/
def State.TimebasesInv (s : State) : Prop := ∀ t : Fin 4, s.tbs[t].Inv

/-! ## Levels and segments in their ranges (R20, R36, R47) -/

/-- Level, pending level, latched duty, segments and the head's runtime fields are in range; a RAMP in progress has
k at most N; with no head the runtime fields are clear. -/
def Channel.RangeInv (ch : Channel) : Prop :=
  ch.level ≤ 4096 ∧ ch.dutyI ≤ 4096 ∧ ch.dutyF ≤ 15 ∧
    (∀ p ∈ ch.pendingLevel, p.level ≤ 4096) ∧
    (∀ seg ∈ ch.queue, seg.valid = true) ∧
    (∀ r ∈ ch.replacement, ∀ seg ∈ r.segments, seg.valid = true) ∧
    ch.run.start ≤ 4096 ∧
    (∀ target n, ch.queue.head? = some (.ramp target n) → ch.run.k ≤ n) ∧
    (ch.queue = [] → ch.run = .clear)

def State.RangesInv (s : State) : Prop := s.TimebasesInv ∧ ∀ c : Fin 16, s.chans[c].RangeInv

/-! ## Law 3 and the gathering timer (R37, R63) -/

/-- The channel waits at the point: WAITING with a SYNC head that names it. -/
def Channel.waitsAt (ch : Channel) (p : Fin 8) : Bool := ch.state == .waiting && ch.queue.head? == some (.sync p)

/-- A WAITING channel has a SYNC at its head; the arrived set of a point is the set of the channels that wait there
(Law 3) and lies in the member set; the gathering timer runs exactly while the arrived set is not empty and the timeout
is not zero, below the timeout (R63, R66). -/
def State.RendezvousInv (s : State) : Prop :=
  (∀ c : Fin 16, s.chans[c].state = .waiting → ∃ p : Fin 8, s.chans[c].queue.head? = some (.sync p)) ∧
    (∀ p : Fin 8, ∀ c : Fin 16, s.points[p].arrived.has c = s.chans[c].waitsAt p) ∧
    (∀ p : Fin 8, ∀ c : Fin 16, s.points[p].arrived.has c = true → s.points[p].members.has c = true) ∧
    (∀ p : Fin 8, s.points[p].timer.isSome = (s.points[p].arrived != 0 && s.points[p].timeout != 0)) ∧
    (∀ p : Fin 8, ∀ n ∈ s.points[p].timer, n < s.points[p].timeout)

/-! ## Law 5: the pair signals (R77, R81) -/

/-- A and B are never high together, at most one rise delay is present, one is present only while the other signal is
low and with a count below D, and a disabled pair is low. -/
def Pair.Inv (p : Pair) : Prop :=
  ¬(p.a = true ∧ p.b = true) ∧ p.deadTime ≤ 63 ∧
    (∀ n ∈ p.riseA, p.b = false ∧ p.riseB = none ∧ n < p.deadTime) ∧
    (∀ n ∈ p.riseB, p.a = false ∧ p.riseA = none ∧ n < p.deadTime) ∧
    (p.enabled = false → p.a = false ∧ p.b = false ∧ p.riseA = none ∧ p.riseB = none)

def State.PairsInv (s : State) : Prop := ∀ k : Fin 8, s.pairs[k].Inv

/-- A pair whose logic does not act (disabled, forced or halted) is low with no delay (R77, R84; Law 12 for a pair). -/
def State.PairsHeldLow (s : State) : Prop :=
  ∀ k : Fin 8, s.pairActs k = false → s.pairs[k].low = s.pairs[k]

/-! ## Law 11: the locked channel (R79) -/

/-- The odd channel of an enabled pair, and no other, is locked; it is IDLE with an empty queue, no pending list and no
pending level, and bound to its partner's timebase. -/
def State.LockInv (s : State) : Prop :=
  ∀ k : Fin 8,
    s.chans[evenOf k].locked = false ∧ s.chans[oddOf k].locked = s.pairs[k].enabled ∧
      (s.pairs[k].enabled = true →
        s.chans[oddOf k].state = .idle ∧ s.chans[oddOf k].queue = [] ∧ s.chans[oddOf k].replacement = none ∧
          s.chans[oddOf k].pendingLevel = none ∧ s.chans[oddOf k].tb = s.chans[evenOf k].tb)

/-! ## The fault monitor (R98, R101, R104, R105) -/

/-- An active source is latched; FLT0 and FLT1 have an input record in range, SILENCE and SPEED none; SPEED is active
exactly while a unit asserts it. -/
def State.FaultInv (s : State) : Prop :=
  (∀ f : Fin 4, s.faults[f].active = true → s.faults[f].latched = true) ∧
    (∀ f : Fin 4, s.faults[f].input.isSome = decide (f.val < 2)) ∧
    (∀ f : Fin 4, ∀ i ∈ s.faults[f].input, 1 ≤ i.filter ∧ i.filter ≤ 16 ∧ i.run ≤ i.filter) ∧
    s.faults[speed].active = s.anyAsserting

/-- Law 12 with R105: a covered channel is forced; a channel is FAULTED exactly when a latched STOP source covers it
and it is not locked. -/
def State.CoverageInv (s : State) : Prop :=
  s.LockInv ∧
    (∀ c : Fin 16, s.covered c = true → s.chans[c].forced = true) ∧
    (∀ c : Fin 16, s.chans[c].state = .faulted ↔ s.coveredByStop c = true ∧ s.chans[c].locked = false)

/-! ## Laws 7 and 8: the report queue (R148, R150, R151) -/

/-- At most 32 records, 32 only with OVERFLOW newest; consecutive numbers that end before the next number; the sent
records are the oldest and at most W; W is 1 to 8. -/
def ReportQueue.Inv (q : ReportQueue) : Prop :=
  q.records.length ≤ 32 ∧
    (q.records.length = 32 → ∃ r ∈ q.records.getLast?, r.isOverflow = true) ∧
    (∀ i (h : i < q.records.length), q.records[i].number = q.next - BitVec.ofNat 8 (q.records.length - i)) ∧
    (∀ i (h : i < q.records.length), q.records[i].sent = decide (i < q.sentCount)) ∧
    q.sentCount ≤ q.window ∧ 1 ≤ q.window ∧ q.window ≤ 8

/-! ## The link (R123, R125, R127 to R129, R133, R134) -/

def Receiver.Inv : Receiver → Prop
  | .hunt => True
  | .length => True
  | .body len bytes => 2 ≤ len.toNat ∧ len.toNat ≤ 198 ∧ bytes.length < len.toNat
  | .check len bytes _ => 2 ≤ len.toNat ∧ len.toNat ≤ 198 ∧ bytes.length = len.toNat

/-- The FIFOs hold at most two, the counters at most 255, the break count at most 20; the inter-byte timer runs exactly
outside HUNT; the silence timer runs only below a limit that is not 0. -/
def Link.Inv (l : Link) : Prop :=
  l.inbound.length ≤ 2 ∧ l.holding.length ≤ 2 ∧
    l.crcErrors ≤ 255 ∧ l.framingErrors ≤ 255 ∧ l.timeouts ≤ 255 ∧ l.droppedFrames ≤ 255 ∧ l.breakCount ≤ 20 ∧
    l.receiver.Inv ∧ (l.interByte = none ↔ l.receiver = .hunt) ∧ (∀ n ∈ l.interByte, n < 5) ∧
    (l.silenceLimit = 0 ∨ (10 ≤ l.silenceLimit ∧ l.silenceLimit ≤ 10000)) ∧
    (∀ n ∈ l.silenceTimer, n < l.silenceLimit)

end Sys2Proof.Machine
end

