-- ==== Sys2Proof/WellFormed.lean ====
section
/-! DEFINITION. Which commands the outside can send: the request frames the link can carry (R123, R157). -/

namespace Sys2Proof

/-- A payload the link can carry: LEN is at most 198 and counts SEQ and TYPE too (R123, R157). -/
def payloadFits (payload : List Byte) : Bool := payload.length ≤ 196

/-- A well-formed command: an event always is; a request frame fits on the link, and an unknown kind's TYPE is no
request code. -/
def Instr.wellFormed (i : Instr) : Bool :=
  match i with
  | .unknownRequestKind _ type payload => payloadFits payload && (requestKindOf type).isNone
  | i => match i.body? with
    | some (_, _, payload) => payloadFits payload
    | none => true

end Sys2Proof
end

