-- ==== Sys2Proof/Certificates/Slice0/Obligations.lean ====
section
/-! DEFINITION. The statements for the provers. In every statement about a request, `s.heard` is the state after the arrival of a CRC-valid frame, which any frame makes, and `AnsweredOk c s t` says that `exec c s` answers the next state `t` with the response added. -/

open Sys2Proof Sys2Proof.Machine

/-! ## The queue of commands, and when a request is taken -/

/-- A step takes the command at the front of the queue and is its execution with the queue's rest. -/
def Obligations.StepTakesTheFrontCommand : Prop :=
  ∀ (c : Instr) (s : State) (rest : List Instr), s.pending = c :: rest → step s = exec c { s with pending := rest }

/-- With no command waiting (log entry 7) a settled part takes an event due at the present clock edge, one of them in a
free choice (log entry 1), and no other event: a tick of a RUNNING timebase (R1), the millisecond tick (R2), an input
sample (R99), the end of the frame on TXD or of an aborted one (R130, R135), and at the middle of a stop bit's time its
sample, which is a character received where RXD is then high and a character fault where it is low (R122, R126). With none
due one reference period passes: the counts go on, the prescaler of a HALTED timebase is held,
the frame on TXD and the character on RXD grow older, and RXD is sampled at the middle of the start bit's time and of each
data bit's, an odd bit time's middle rounded either way (log entry 2). The data bits spell the byte, the least significant
first; the start bit's sample is not tested (log entry 15). -/
def Obligations.EmptyQueuePassesOneReferencePeriod : Prop :=
  (∀ s : State, s.pending = [] → s.held = false → s.Settled →
    let due (c : Instr) : Prop :=
      (∃ b : Fin 4, c = .timebaseTick b ∧ s.tbs[b].state = .running ∧ s.tbs[b].divider ≤ s.tbs[b].prescaler) ∨
      (c = .millisecondTick ∧ 32000 ≤ s.msPhase) ∨
      (c = .inputSample s.inputs ∧ 32 ≤ s.samplePhase) ∨
      (c = .transmitCompletion ∧ ∃ frame rate age, s.link.tx = .sending frame rate age ∧
        rate.charTime * frame.bytes.length ≤ age) ∨
      (c = .abortedFrameEnd ∧ ∃ frame rate age, s.link.tx = .aborted frame rate age ∧
        rate.charTime * frame.bytes.length ≤ age) ∨
      (∃ r, s.link.rxChar = some r ∧ 9 ≤ r.bits.length ∧ sampleAge s.link.rate 9 ≤ r.age ∧
        c = if s.link.rxd = true then .characterReceived (byteOfBits r.bits) else .characterFault)
    ((∃ c, due c) → ∃ (c : Instr) (n : Nat), due c ∧ step s = exec c { s with choice := n }) ∧
    ((∀ c, ¬due c) → step s = .next { s with
      tbs := Vector.ofFn fun b =>
        if s.tbs[b].state = .running then { s.tbs[b] with prescaler := s.tbs[b].prescaler + 1 } else s.tbs[b]
      msPhase := s.msPhase + 1
      samplePhase := s.samplePhase + 1
      link := { s.link with
        tx := match s.link.tx with
          | .idle => .idle
          | .sending frame rate age => .sending frame rate (age + 1)
          | .aborted frame rate age => .aborted frame rate (age + 1)
        rxChar := s.link.rxChar.map fun r =>
          { age := r.age + 1
            bits := if r.bits.length < 9 ∧ r.age + 1 = sampleAge s.link.rate r.bits.length then
                r.bits ++ [s.link.rxd]
              else r.bits } } })) ∧
  (∀ (rate : Rate) (i : Nat), rate.bitTime * (2 * i + 1) ≤ 2 * sampleAge rate i + 1 ∧
    2 * sampleAge rate i ≤ rate.bitTime * (2 * i + 1) + 1) ∧
  (∀ (start : Bool) (b : Byte), byteOfBits (start :: (List.range 8).map b.getLsbD) = b)

/-- While RST_N is held low (its frame in flight ended) every command but a reset and an edge of RXD changes nothing. -/
def Obligations.HeldPartIgnoresCommands : Prop :=
  ∀ (c : Instr) (s : State), s.held = true → s.link.tx = .idle →
    c ≠ .powerOnReset → c ≠ .rstNAssert → c ≠ .pinReset → c ≠ .rxdRisingEdge → c ≠ .rxdFallingEdge →
    exec c s = .next s

/-- A request that arrives at a ready part is performed at once, answered and remembered; a refused one changes no
block's state, and its answer has no payload and no tied effect (R137, R138, R140, R141). The bytes of an answer (R157,
R158, Tables 58 and 59): the body of its frame is SEQ, TYPE, the code of the status, FLAGS with REPLAYED at bit 0 and DROPPED
at bit 1, and the payload; its TYPE is the request's code plus 0x80, the requests' codes being 0x01 to 0x20 in the order of
Table 58. -/
def Obligations.ReadyPartPerformsAndAnswers : Prop :=
  (∀ (k : RequestKind) (seq : Byte) (p : List Byte) (s : State), s.Ready (k.command seq p) →
    let r := perform (commandFrame (k.command seq p)) s.heard
    Answered (k.command seq p) s r.1.status r.1.payload r.1.tied r.2) ∧
  (∀ (f : Frame) (s : State), (perform f s).1.status ≠ .ok → (perform f s).1.status ≠ .pending →
    (perform f s).2 = s ∧ (perform f s).1.payload = [] ∧ (perform f s).1.tied = .none) ∧
  (∀ r : Response, r.body = [r.seq, r.type,
      match r.status with
      | .ok => 0
      | .pending => 1
      | .badType => 2
      | .badLength => 3
      | .badArg => 4
      | .locked => 5
      | .state => 6
      | .quota => 7
      | .notMember => 8
      | .faultActive => 9,
      (if r.replayed then 1 else 0) + (if r.dropped then 2 else 0)] ++ r.payload) ∧
  (∀ (k : RequestKind) (seq : Byte) (p : List Byte) (st : Status) (payload : List Byte) (tied : Tied),
    (commandFrame (k.command seq p)).type = k.code ∧
      (responseTo (k.command seq p) st payload tied).type = k.code + 0x80 ∧
      responseType k.code = k.code + 0x80) ∧
  [.getInfo, .getStatus, .setLink, .resetDevice, .tbConfig, .tbStart, .tbStop, .tbPeriod, .tbQuery, .chQuota, .segAppend,
    .segReplace, .chConfig, .chLevel, .chStart, .chPause, .chResume, .chFlush, .chQuery, .rpDefine, .rpQuery, .pairConfig,
    .routeSet, .pinConfig, .outQuery, .faultConfig, .faultClear, .faultQuery, .smConfig, .smQuery, .rptAck,
    .rptResend].map RequestKind.code = (List.range 32).map fun n => BitVec.ofNat 8 (n + 1)

/-- R138, step 1, and R157: a payload whose length is not the one Table 61 gives for the kind is refused with BAD_LENGTH,
whatever it holds; a TYPE outside 0x01 to 0x20 is refused with BAD_TYPE, whatever the payload, by a response with TYPE
0xFF. -/
def Obligations.WrongLengthAndUnknownKindRefused : Prop :=
  (∀ (k : RequestKind) (seq : Byte) (p : List Byte) (s : State),
    lengthOk k p.length = false → s.Ready (k.command seq p) → Refused (k.command seq p) s .badLength) ∧
  (∀ (seq type : Byte) (p : List Byte) (s : State), type.toNat = 0 ∨ 0x20 < type.toNat →
    s.Ready (.unknownRequestKind seq type p) →
      Refused (.unknownRequestKind seq type p) s .badType ∧
        (responseTo (.unknownRequestKind seq type p) .badType [] .none).type = 0xFF ∧
        (responseTo (.unknownRequestKind seq type p) .badType [] .none).seq = seq)

/-- With the holding queue full a frame waits in the inbound buffer; a full buffer drops it, with its counter and the
dropped mark (R128, R137). With room, a frame whose SEQ and CRC are those of the replay memory is not executed: the
stored response is given again with REPLAYED set, and the memory is unchanged (R141). In each case the host has been
heard. -/
def Obligations.FrameWaitsIsDroppedOrIsReplayed : Prop :=
  ∀ (seq type : Byte) (p : List Byte) (s : State), s.held = false → s.Settled →
    (s.link.holding.length = 2 → s.link.inbound.length < 2 →
      exec (commandOfBody seq type p) s = .next { s.heard with
        link := { s.heard.link with inbound := s.link.inbound ++ [requestFrame seq type p] } }) ∧
    (s.link.holding.length = 2 → 2 ≤ s.link.inbound.length →
      exec (commandOfBody seq type p) s = .next { s.heard with
        link := { s.heard.link with droppedFrames := min 255 (s.link.droppedFrames + 1), droppedMark := true } }) ∧
    (∀ e : ReplayEntry, s.link.holding.length < 2 → s.replay = some e → e.seq = seq →
      e.crc = (requestFrame seq type p).crc →
      exec (commandOfBody seq type p) s = .next (s.heard.respond { e.response with replayed := true }))

/-! ## Requests of the part as a whole -/

/-- R143. -/
def Obligations.GetInfoAnswers : Prop :=
  ∀ (s : State) (seq : Byte) (p : List Byte), s.Ready (.getInfo seq p) →
    (p ≠ [] → Refused (.getInfo seq p) s .badLength) ∧
    (p = [] → Answered (.getInfo seq p) s .ok
      [0x54, 0x20, 0x16, 2, 16, 4, 8, 24, 20, 4, 0x00, 0x02] .none s.heard)

/-- R144 with Table 63; the clear flag sets the counters to 0 after their values are placed in the response (R127). -/
def Obligations.GetStatusAnswers : Prop :=
  ∀ (s : State) (seq v : Byte), s.Ready (.getStatus seq [v]) →
    let u := s.heard
    (1 < v.toNat → Refused (.getStatus seq [v]) s .badArg) ∧
    (v.toNat ≤ 1 → Answered (.getStatus seq [v]) s .ok
      (le8 u.link.crcErrors ++ le8 u.link.framingErrors ++ le8 u.link.timeouts ++ le8 u.link.droppedFrames ++
        le32 u.link.rate.baud ++
        (match u.link.pendingRate with
          | none => [0, 0, 0, 0, 0]
          | some r => [1] ++ le32 r.baud) ++
        le16 u.link.silenceLimit ++
        (match u.link.silenceTimer with
          | none => [0, 0, 0]
          | some n => [1] ++ le16 n) ++
        le8 u.reports.window ++ le8 u.reports.records.length ++ le8 u.reports.sentCount)
      .none
      (if v = 1 then
        { u with link := { u.link with crcErrors := 0, framingErrors := 0, timeouts := 0, droppedFrames := 0 } }
      else u))

/-- R145 with R132 and R133: the three changes of SET_LINK, with their ranges, the STATE test and the tied rate; and the
fields out of range: a change mark that is neither clear nor set, a value with its mark clear that is not zero, a rate
that is none of the four. -/
def Obligations.SetLinkEffect : Prop :=
  (∀ (s : State) (seq : Byte) (rate : Option Rate) (window limit : Option Nat),
    (∀ w ∈ window, w < 256) → (∀ n ∈ limit, n < 65536) →
    let c := Instr.setLink seq
      (flagByte rate.isSome ++ le32 ((rate.map Rate.baud).getD 0) ++ flagByte window.isSome ++ le8 (window.getD 0) ++
        flagByte limit.isSome ++ le16 (limit.getD 0))
    let inRange := (∀ w ∈ window, 1 ≤ w ∧ w ≤ 8) ∧ (∀ n ∈ limit, n = 0 ∨ (10 ≤ n ∧ n ≤ 10000))
    let u := s.heard
    s.Ready c →
      (¬inRange → Refused c s .badArg) ∧
      (inRange → (∃ w ∈ window, w < s.reports.sentCount) → Refused c s .state) ∧
      (inRange → (∀ w ∈ window, s.reports.sentCount ≤ w) →
        Answered c s (if rate.isSome then .pending else .ok)
          (le32 u.link.rate.baud ++
            (match rate.or u.link.pendingRate with
              | none => [0, 0, 0, 0, 0]
              | some r => [1] ++ le32 r.baud) ++
            le8 (window.getD u.reports.window) ++ le16 (limit.getD u.link.silenceLimit))
          (if rate.isSome then .rate else .none)
          { u with
            reports := { u.reports with window := window.getD u.reports.window }
            link := { u.link with
              pendingRate := rate.or u.link.pendingRate
              silenceLimit := limit.getD u.link.silenceLimit
              silenceTimer := match limit with
                | none => u.link.silenceTimer
                | some n => if n = 0 then none else some 0
              holding := if rate.isSome then u.link.holding.map Response.untieRate else u.link.holding
              tx := if rate.isSome then u.link.tx.untieRate else u.link.tx } })) ∧
  (∀ (s : State) (seq : Byte) (p : List Byte), p.length = 10 → s.Ready (.setLink seq p) →
    (1 < u8 p 0 ∨ 1 < u8 p 5 ∨ 1 < u8 p 7 ∨
      (u8 p 0 = 0 ∧ u32 p 1 ≠ 0) ∨ (u8 p 5 = 0 ∧ u8 p 6 ≠ 0) ∨ (u8 p 7 = 0 ∧ u16 p 8 ≠ 0) ∨
      (u8 p 0 = 1 ∧ u32 p 1 ≠ 115200 ∧ u32 p 1 ≠ 230400 ∧ u32 p 1 ≠ 460800 ∧ u32 p 1 ≠ 921600)) →
    Refused (.setLink seq p) s .badArg)

/-! ## Requests to timebases -/

/-- R8. -/
def Obligations.TbConfigEffect : Prop :=
  ∀ (s : State) (seq : Byte) (n d P : Nat), n < 256 → d < 256 → P < 65536 →
    let c := Instr.tbConfig seq (le8 n ++ le8 d ++ le16 P)
    let inRange := d ∈ [1, 2, 4, 8, 16, 32, 64, 128] ∧ 16 ≤ P ∧ P ≤ 4096
    s.Ready c →
      (¬(n ≤ 3 ∧ inRange) → Refused c s .badArg) ∧
      (∀ b : Fin 4, n = b.val → inRange →
        (s.tbs[b].state = .running → Refused c s .state) ∧
        (s.tbs[b].state = .halted →
          AnsweredOk c s ((s.heard.modTb b fun tb =>
              { tb with divider := d, period := P, pendingPeriod := none }).offerIf s.tbs[b].notifySeq
            fun old => .superseded old (.tbPeriod b))))

/-- R6: refusals of TB_START (an empty set, one that names a timebase beyond TB3, a RUNNING one). Else every timebase of the
set is set going and their start boundaries are taken in some order (log entry 1), each whole as BoundaryEffect gives it. That
the reports of one start boundary, and of one channel in it, so enter together is the model's choice: R6 and R149 leave their
entry in either order (log entry 31, DESIGN CHOICE). Whatever the order: what each timebase becomes; a bound channel has its pending items applied or cleared (R40 to R42), its duty latched
against the new P (R15, R18, R52) and its forced flag lifted when no source covers it (R52); an enabled pair whose even
channel is bound to the set and is not forced restarts (R83). -/
def Obligations.TbStartEffect : Prop :=
  (∀ (s : State) (seq v : Byte), v.toNat = 0 ∨ 16 ≤ v.toNat → s.Ready (.tbStart seq [v]) →
    Refused (.tbStart seq [v]) s .badArg) ∧
  (∀ (s : State) (seq : Byte) (set : List (Fin 4)), set ≠ [] →
    let c := Instr.tbStart seq [tbSetByte set]
    s.Ready c →
      ((∃ b ∈ set, s.tbs[b].state = .running) → Refused c s .state) ∧
      ((∀ b ∈ set, s.tbs[b].state = .halted) → ∃ t : State, AnsweredOk c s t ∧
        (∀ b ∈ set, t.tbs[b] = { s.tbs[b] with
          state := .running, prescaler := 0, counter := 0, stretch := false, slot := 0
          periodCount := s.tbs[b].periodCount + 1, pendingPeriod := none
          period := match s.tbs[b].pendingPeriod with
            | some p => p.period
            | none => s.tbs[b].period }) ∧
        (∃ (order : List (Fin 4)) (n : Nat), order.Perm ((List.finRange 4).filter fun b => set.contains b) ∧
          t = order.foldl (fun u b => u.boundary true b)
            { s.heard with
              choice := n
              tbs := Vector.ofFn fun b =>
                if set.contains b then
                  { s.tbs[b] with state := .running, prescaler := 0, counter := 0, stretch := false, slot := 0 }
                else s.tbs[b] }) ∧
        (∀ b : Fin 4, b ∉ set → t.tbs[b] = s.tbs[b]) ∧
        (∀ x : Fin 16, s.chans[x].tb ∉ set → (∀ p : Fin 8, s.points[p].members.has x = false) →
          t.chans[x] = s.chans[x]) ∧
        (∀ x : Fin 16, s.chans[x].tb ∈ set →
          t.chans[x].pendingLevel = none ∧ t.chans[x].replacement = none ∧ t.chans[x].pendingControl = .none ∧
            t.chans[x].state ≠ .armed ∧
            16 * t.chans[x].dutyI + t.chans[x].dutyF = t.chans[x].level * t.tbs[s.chans[x].tb].period / 256 ∧
            t.chans[x].dutyF < 16 ∧
            t.chans[x].forced = (s.chans[x].forced && s.covered x) ∧
            t.chans[x].quota = s.chans[x].quota ∧ t.chans[x].locked = s.chans[x].locked ∧
            t.chans[x].tb = s.chans[x].tb ∧ t.chans[x].mode = s.chans[x].mode ∧
            t.chans[x].safe = s.chans[x].safe) ∧
        (∀ k : Fin 8, t.pairs[k] =
          if s.pairs[k].enabled = true ∧ s.chans[evenOf k].tb ∈ set ∧ t.chans[evenOf k].forced = false then
            s.pairs[k].restart (t.basicSignal (evenOf k))
          else s.pairs[k]) ∧
        t.link = s.heard.link ∧ t.faults = s.heard.faults ∧ t.routes = s.routes ∧ t.idles = s.idles ∧
        t.units = s.units ∧ t.msPhase = s.msPhase ∧ t.samplePhase = s.samplePhase))

/-- R7 with R18 and R84: each RUNNING timebase of the set halts, its bound channels' basic signals are low, and an
enabled pair whose even channel is bound to it is low; a HALTED one stays as it is. A bad set is refused. -/
def Obligations.TbStopEffect : Prop :=
  (∀ (s : State) (seq v : Byte), v.toNat = 0 ∨ 16 ≤ v.toNat → s.Ready (.tbStop seq [v]) →
    Refused (.tbStop seq [v]) s .badArg) ∧
  (∀ (s : State) (seq : Byte) (set : List (Fin 4)), set ≠ [] →
    let c := Instr.tbStop seq [tbSetByte set]
    let t : State := { s.heard with
      tbs := Vector.ofFn fun b =>
        if set.contains b && s.tbs[b].state == .running then
          { s.tbs[b] with state := .halted, counter := 0, stretch := false }
        else s.tbs[b]
      pairs := Vector.ofFn fun k =>
        let b := s.chans[evenOf k].tb
        if s.pairs[k].enabled && set.contains b && s.tbs[b].state == .running then
          { s.pairs[k] with a := false, b := false, riseA := none, riseB := none }
        else s.pairs[k] }
    s.Ready c → AnsweredOk c s t ∧ ∀ x : Fin 16, s.chans[x].tb ∈ set → t.basicSignal x = false)

/-- R9 to R12: TB_PERIOD on a HALTED timebase, with timing BOUNDARY (0), and with timing NOW (1) ahead of the counter
or behind it. -/
def Obligations.TbPeriodEffect : Prop :=
  ∀ (s : State) (seq : Byte) (n P timing : Nat) (notify : Bool), n < 256 → P < 65536 → timing < 256 →
    let c := Instr.tbPeriod seq (le8 n ++ le16 P ++ le8 timing ++ flagByte notify)
    let inRange := 16 ≤ P ∧ P ≤ 4096 ∧ timing ≤ 1
    s.Ready c →
      (¬(n ≤ 3 ∧ inRange) → Refused c s .badArg) ∧
      (∀ b : Fin 4, n = b.val → inRange →
        let dropped (f : Timebase → Timebase) : State :=
          (s.heard.modTb b fun tb => f { tb with pendingPeriod := none }).offerIf s.tbs[b].notifySeq
            fun old => .superseded old (.tbPeriod b)
        (s.tbs[b].state = .halted → AnsweredOk c s (dropped fun tb => { tb with period := P })) ∧
        (s.tbs[b].state = .running → timing = 0 →
          Answered c s .pending [] .none (dropped fun tb =>
            { tb with pendingPeriod := some { period := P, notify := if notify then some seq else none } })) ∧
        (s.tbs[b].state = .running → timing = 1 → s.tbs[b].counter < P →
          AnsweredOk c s (dropped fun tb => { tb with period := P })) ∧
        (s.tbs[b].state = .running → timing = 1 → P ≤ s.tbs[b].counter →
          AnsweredOk c s ((dropped fun tb => { tb with period := P, stretch := true }).offer
            (.periodStretched b s.tbs[b].counter P))))

/-! ## Requests to the pool -/

/-- R26: BAD_ARG, then QUOTA, else all sixteen quotas change together and no record moves. -/
def Obligations.ChQuotaEffect : Prop :=
  ∀ (s : State) (seq : Byte) (q : Vector Nat 16), (∀ x : Fin 16, q[x] < 65536) →
    let c := Instr.chQuota seq ((List.finRange 16).flatMap fun x => le16 q[x])
    let fits := (∀ x : Fin 16, q[x] ≤ 512) ∧ ((List.finRange 16).map fun x => q[x]).sum ≤ 512
    s.Ready c →
      (¬fits → Refused c s .badArg) ∧
      (fits → (∃ x : Fin 16, q[x] < s.chans[x].holds) → Refused c s .quota) ∧
      (fits → (∀ x : Fin 16, s.chans[x].holds ≤ q[x]) →
        AnsweredOk c s { s.heard with chans := Vector.ofFn fun x => { s.chans[x] with quota := q[x] } })

/-- R21, R27 and R28: the checks of SEG_APPEND in their order, a channel above 15 and an encoding that is no segment
valid in form first, and the records at the tail in the order carried. -/
def Obligations.SegAppendEffect : Prop :=
  (∀ (s : State) (seq n : Byte) (g : List Byte), lengthOk .segAppend (1 + g.length) = true →
    s.Ready (.segAppend seq (n :: g)) →
    15 < n.toNat ∨ ¬(∃ segs : List Segment, (∀ x ∈ segs, x.valid = true) ∧ g = segs.flatMap Segment.bytes) →
      Refused (.segAppend seq (n :: g)) s .badArg) ∧
  (∀ (s : State) (seq : Byte) (x : Fin 16) (segs : List Segment), 1 ≤ segs.length → segs.length ≤ 16 →
    (∀ g ∈ segs, g.valid = true) →
    let c := Instr.segAppend seq (le8 x.val ++ segs.flatMap Segment.bytes)
    let tooMany := s.chans[x].quota < s.chans[x].holds + segs.length
    let foreign := ∃ p : Fin 8, Segment.sync p ∈ segs ∧ s.points[p].members.has x = false
    s.Ready c →
      (s.chans[x].locked = true → Refused c s .locked) ∧
      (s.chans[x].locked = false → tooMany → Refused c s .quota) ∧
      (s.chans[x].locked = false → ¬tooMany → foreign → Refused c s .notMember) ∧
      (s.chans[x].locked = false → ¬tooMany → ¬foreign →
        AnsweredOk c s { s.heard with
          chans := s.chans.set x { s.chans[x] with queue := s.chans[x].queue ++ segs }
          free := s.free - segs.length }))

/-- R21, R29, R30 and R58: the checks of SEG_REPLACE in their order, the earlier list freed with SUPERSEDED, the new list
stored with the notify mark. -/
def Obligations.SegReplaceEffect : Prop :=
  (∀ (s : State) (seq n mark : Byte) (g : List Byte), lengthOk .segReplace (2 + g.length) = true →
    s.Ready (.segReplace seq (n :: mark :: g)) →
    15 < n.toNat ∨ 1 < mark.toNat ∨
      ¬(∃ segs : List Segment, (∀ x ∈ segs, x.valid = true) ∧ g = segs.flatMap Segment.bytes) →
      Refused (.segReplace seq (n :: mark :: g)) s .badArg) ∧
  (∀ (s : State) (seq : Byte) (x : Fin 16) (notify : Bool) (segs : List Segment), 1 ≤ segs.length →
    segs.length ≤ 16 → (∀ g ∈ segs, g.valid = true) →
    let c := Instr.segReplace seq (le8 x.val ++ flagByte notify ++ segs.flatMap Segment.bytes)
    let tooMany := s.chans[x].quota < s.chans[x].queue.length + segs.length
    let foreign := ∃ p : Fin 8, Segment.sync p ∈ segs ∧ s.points[p].members.has x = false
    let early := s.chans[x].state = .idle ∨ s.chans[x].state = .armed
    s.Ready c →
      (s.chans[x].locked = true → Refused c s .locked) ∧
      (s.chans[x].locked = false → early → Refused c s .state) ∧
      (s.chans[x].locked = false → ¬early → tooMany → Refused c s .quota) ∧
      (s.chans[x].locked = false → ¬early → ¬tooMany → foreign → Refused c s .notMember) ∧
      (s.chans[x].locked = false → ¬early → ¬tooMany → ¬foreign →
        Answered c s .pending [] .none
          (State.offerIf
            (match s.chans[x].replacement with
              | some old => old.notify
              | none => none)
            (fun old => .superseded old (.segReplace x))
            { s.heard with
              chans := s.chans.set x { s.chans[x] with
                replacement := some { segments := segs, notify := if notify then some seq else none } }
              free := (match s.chans[x].replacement with
                | some old => s.free + old.segments.length
                | none => s.free) - segs.length })))

/-! ## Requests to channels -/

/-- R38: refusals in order, then the binding, the mode and the safe level. For the even channel of an enabled pair both
channels are bound to the new timebase, and the pair logic is restarted, put low or given an edge as R83 and R84 say. -/
def Obligations.ChConfigEffect : Prop :=
  (∀ (s : State) (seq : Byte) (x tb mode safe : Nat), x < 256 → tb < 256 → mode < 256 → safe < 256 →
    let c := Instr.chConfig seq (le8 x ++ le8 tb ++ le8 mode ++ le8 safe)
    let inRange := x ≤ 15 ∧ tb ≤ 3 ∧ mode ≤ 1 ∧ safe ≤ 1
    s.Ready c →
      (¬inRange → Refused c s .badArg) ∧
      (∀ (i : Fin 16) (b : Fin 4), x = i.val → tb = b.val → inRange →
        (s.chans[i].locked = true → Refused c s .locked) ∧
        (s.chans[i].locked = false → s.chans[i].state ≠ .idle → Refused c s .state) ∧
        (s.chans[i].locked = false → s.chans[i].state = .idle → (isEven i && s.pairs[pairOf i].enabled) = false →
          AnsweredOk c s { s.heard with
            chans := s.chans.set i { s.chans[i] with
              tb := b, mode := if mode = 0 then .oneShot else .cyclic, safe := decide (safe = 1) } }))) ∧
  (∀ (s : State) (seq : Byte) (k : Fin 8) (b : Fin 4) (mode : Fin 2) (safe : Bool),
    let i := evenOf k
    let c := Instr.chConfig seq (le8 i.val ++ le8 b.val ++ le8 mode.val ++ flagByte safe)
    s.Ready c → s.pairs[k].enabled = true → s.chans[i].locked = false → s.chans[i].state = .idle →
      ∃ t : State, AnsweredOk c s t ∧
        t.chans[i] = { s.chans[i] with tb := b, mode := if mode = 0 then .oneShot else .cyclic, safe := safe } ∧
        t.chans[oddOf k] = { s.chans[oddOf k] with tb := b } ∧
        (∀ x : Fin 16, x ≠ i → x ≠ oddOf k → t.chans[x] = s.chans[x]) ∧
        (∀ j : Fin 8, j ≠ k → t.pairs[j] = s.pairs[j]) ∧
        { t with chans := s.heard.chans, pairs := s.heard.pairs } = s.heard ∧
        (b = s.chans[i].tb → t.pairs[k] = s.pairs[k]) ∧
        (b ≠ s.chans[i].tb → s.tbs[b].state = .halted →
          t.pairs[k] = if s.tbs[s.chans[i].tb].state = .running then s.pairs[k].low else s.pairs[k]) ∧
        (b ≠ s.chans[i].tb → s.tbs[b].state = .running → s.chans[i].forced = true → t.pairs[k] = s.pairs[k]) ∧
        (b ≠ s.chans[i].tb → s.tbs[b].state = .running → s.chans[i].forced = false →
          t.pairs[k] =
            if s.tbs[s.chans[i].tb].state = .halted then s.pairs[k].restart (t.basicSignal i)
            else if s.basicSignal i = t.basicSignal i then s.pairs[k]
            else s.pairs[k].edge (t.basicSignal i)))

/-- R53. -/
def Obligations.ChLevelEffect : Prop :=
  ∀ (s : State) (seq : Byte) (n level mark : Nat), n < 256 → level < 65536 → mark < 256 →
    let c := Instr.chLevel seq (le8 n ++ le16 level ++ le8 mark)
    let inRange := n ≤ 15 ∧ level ≤ 4096 ∧ mark ≤ 1
    s.Ready c →
      (¬inRange → Refused c s .badArg) ∧
      (∀ x : Fin 16, n = x.val → inRange →
        (s.chans[x].locked = true → Refused c s .locked) ∧
        (s.chans[x].locked = false → s.chans[x].state ≠ .idle → Refused c s .state) ∧
        (s.chans[x].locked = false → s.chans[x].state = .idle →
          Answered c s .pending [] .none
            ((s.heard.modChan x fun ch =>
                { ch with pendingLevel := some { level := level, notify := if mark = 1 then some seq else none } }).offerIf
              s.chans[x].levelSeq fun old => .superseded old (.chLevel x))))

/-- R54 to R56: the refusals of CH_START, CH_PAUSE and CH_RESUME, LOCKED over the whole set before STATE; CH_START makes
every channel of the set ARMED; the pending control that the other two leave, and PENDING exactly when a channel gains
a new pending item. -/
def Obligations.ChStartPauseAndResumeEffect : Prop :=
  (∀ (s : State) (seq : Byte) (set : ChSet),
    let c := Instr.chStart seq (le16 set.toNat)
    let anyLocked := ∃ x : Fin 16, set.has x = true ∧ s.chans[x].locked = true
    let unfit := ∃ x : Fin 16, set.has x = true ∧ (s.chans[x].state ≠ .idle ∨ s.chans[x].queue = [])
    s.Ready c →
      (set = 0 → Refused c s .badArg) ∧
      (anyLocked → Refused c s .locked) ∧
      (¬anyLocked → unfit → Refused c s .state) ∧
      (set ≠ 0 → ¬anyLocked → ¬unfit →
        AnsweredOk c s { s.heard with
          chans := Vector.ofFn fun x =>
            if set.has x then { s.chans[x] with state := .armed } else s.chans[x] })) ∧
  (∀ (s : State) (seq : Byte) (set : ChSet),
    let anyLocked := ∃ x : Fin 16, set.has x = true ∧ s.chans[x].locked = true
    let pause := Instr.chPause seq (le16 set.toNat)
    let resume := Instr.chResume seq (le16 set.toNat)
    let unpausable := ∃ x : Fin 16, set.has x = true ∧ s.chans[x].state ≠ .running
    let unresumable := ∃ x : Fin 16, set.has x = true ∧ s.chans[x].state ≠ .paused ∧
      ¬(s.chans[x].state = .running ∧ s.chans[x].pendingControl = .pause)
    (s.Ready pause →
      (set = 0 → Refused pause s .badArg) ∧
      (anyLocked → Refused pause s .locked) ∧
      (¬anyLocked → unpausable → Refused pause s .state) ∧
      (set ≠ 0 → ¬anyLocked → ¬unpausable → ∃ status,
        (status = .pending ↔ ∃ x : Fin 16, set.has x = true ∧ s.chans[x].pendingControl ≠ .pause) ∧
        (status = .pending ∨ status = .ok) ∧
        Answered pause s status [] .none { s.heard with
          chans := Vector.ofFn fun x =>
            if set.has x then { s.chans[x] with pendingControl := .pause } else s.chans[x] })) ∧
    (s.Ready resume →
      (set = 0 → Refused resume s .badArg) ∧
      (anyLocked → Refused resume s .locked) ∧
      (¬anyLocked → unresumable → Refused resume s .state) ∧
      (set ≠ 0 → ¬anyLocked → ¬unresumable → ∃ status,
        (status = .pending ↔ ∃ x : Fin 16, set.has x = true ∧ s.chans[x].state = .paused ∧
          s.chans[x].pendingControl ≠ .resume) ∧
        (status = .pending ∨ status = .ok) ∧
        Answered resume s status [] .none { s.heard with
          chans := Vector.ofFn fun x =>
            if set.has x then
              { s.chans[x] with pendingControl := if s.chans[x].state = .paused then .resume else .none }
            else s.chans[x] })))

/-- R57: every channel of the set loses its queue, its pending list and its pending control and becomes IDLE, or stays
FAULTED; the records return to the free list; each notified pending list queues SUPERSEDED, those of several channels in
some order; the level, the duty and every other channel are kept. R71: a WAITING channel leaves the arrived set of its
point, whose timer stops when that set is then empty and else goes on. -/
def Obligations.ChFlushEffect : Prop :=
  ∀ (s : State) (seq : Byte) (set : ChSet),
    let c := Instr.chFlush seq (le16 set.toNat)
    let anyLocked := ∃ x : Fin 16, set.has x = true ∧ s.chans[x].locked = true
    s.Ready c →
      (set = 0 → Refused c s .badArg) ∧
      (anyLocked → Refused c s .locked) ∧
      (set ≠ 0 → ¬anyLocked → ∃ t : State, AnsweredOk c s t ∧
        (∀ x : Fin 16, t.chans[x] =
          if set.has x then { s.chans[x] with
            queue := [], run := .clear, replacement := none, pendingControl := .none
            state := if s.chans[x].state = .faulted then .faulted else .idle }
          else s.chans[x]) ∧
        t.free = s.free + ((List.finRange 16).map fun x => if set.has x then s.chans[x].holds else 0).sum ∧
        (∀ p : Fin 8, t.points[p].members = s.points[p].members ∧
          t.points[p].generation = s.points[p].generation ∧ t.points[p].timeout = s.points[p].timeout ∧
          ∀ x : Fin 16, t.points[p].arrived.has x =
            (s.points[p].arrived.has x && !(set.has x && s.chans[x].waitsAt p))) ∧
        (∀ p : Fin 8,
          let left := ∃ x : Fin 16, set.has x = true ∧ s.chans[x].waitsAt p = true
          (left → t.points[p].arrived = 0 → t.points[p].timer = none) ∧
          (¬left ∨ t.points[p].arrived ≠ 0 → t.points[p].timer = s.points[p].timer)) ∧
        (∃ order : List (Fin 16), order.Perm ((List.finRange 16).filter fun x => set.has x) ∧
          t.reports = order.foldl (fun q x =>
            match s.chans[x].replacement.bind fun r => r.notify with
            | some old => q.offer (.superseded old (.segReplace x))
            | none => q) s.reports) ∧
        t.tbs = s.tbs ∧ t.pairs = s.pairs ∧ t.routes = s.routes ∧ t.idles = s.idles ∧ t.faults = s.heard.faults ∧
        t.units = s.units ∧ t.link = s.heard.link)

/-- R59 with Table 64. -/
def Obligations.ChQueryAnswers : Prop :=
  ∀ (s : State) (seq n : Byte), s.Ready (.chQuery seq [n]) →
    (15 < n.toNat → Refused (.chQuery seq [n]) s .badArg) ∧
    (∀ x : Fin 16, n.toNat = x.val → Answered (.chQuery seq [n]) s .ok
      (le8 s.chans[x].state.code ++ le8 s.chans[x].tb.val ++ le8 s.chans[x].mode.code ++ flagByte s.chans[x].safe ++
        le16 s.chans[x].level ++ le16 s.chans[x].dutyI ++ le8 s.chans[x].dutyF ++
        (match s.chans[x].pendingLevel with
          | none => [0, 0, 0, 0, 0]
          | some q => [1] ++ le16 q.level ++ notifyBytes q.notify) ++
        le8 s.chans[x].pendingControl.code ++ flagByte s.chans[x].forced ++ flagByte s.chans[x].locked ++
        le16 s.chans[x].quota ++ le16 s.chans[x].queue.length ++
        (match s.chans[x].replacement with
          | none => [0, 0, 0, 0]
          | some r => [1] ++ le8 r.segments.length ++ notifyBytes r.notify) ++
        (match s.chans[x].queue with
          | [] => List.replicate 12 0
          | head :: _ => [1] ++ head.bytes ++ le16 s.chans[x].run.k ++ le16 s.chans[x].run.start ++
            flagByte s.chans[x].run.released) ++
        le32 s.chans[x].stamp.toNat)
      .none s.heard)

/-! ## Requests to points, pairs and the router -/

/-- R64. -/
def Obligations.RpDefineEffect : Prop :=
  (∀ (s : State) (seq : Byte) (p : List Byte), p.length ≠ 5 → s.Ready (.rpDefine seq p) →
    Refused (.rpDefine seq p) s .badLength) ∧
  (∀ (s : State) (seq : Byte) (n : Nat) (members : ChSet) (timeout : Nat), n < 256 → timeout < 65536 →
    let c := Instr.rpDefine seq (le8 n ++ le16 members.toNat ++ le16 timeout)
    s.Ready c →
      (7 < n ∨ 60000 < timeout → Refused c s .badArg) ∧
      (∀ p : Fin 8, n = p.val → timeout ≤ 60000 →
        (s.points[p].arrived ≠ 0 → Refused c s .state) ∧
        (s.points[p].arrived = 0 →
          AnsweredOk c s { s.heard with
            points := s.points.set p { s.points[p] with members := members, timeout := timeout } })))

/-- R78 to R80 and R82, where no latched source comes to cover the odd channel: enabling, a new dead time, disabling, and
the stored dead time of a disabled pair. R103 where one does: at the disabling of a pair the odd channel is forced, and
FAULTED by a STOP source; at the enabling it is forced and stays IDLE; the even channel is as before (log entry 20). -/
def Obligations.PairConfigEffect : Prop :=
  (∀ (s : State) (seq : Byte) (n enable d : Nat), n < 256 → enable < 256 → d < 256 →
    let c := Instr.pairConfig seq (le8 n ++ le8 enable ++ le8 d)
    s.Ready c →
      (7 < n ∨ 1 < enable ∨ 63 < d → Refused c s .badArg) ∧
      (∀ k : Fin 8, n = k.val → enable ≤ 1 → d ≤ 63 →
        let odd := s.chans[oddOf k]
        let free := odd.state = .idle ∧ odd.queue = [] ∧ odd.pendingLevel = none ∧ odd.replacement = none
        let reached (x : Fin 16) := ∃ f : Fin 4, s.faults[f].latched = true ∧ s.faults[f].action ≠ .none ∧
          s.faults[f].chans.has x = true
        (s.pairs[k].enabled = false → enable = 1 → ¬free → Refused c s .state) ∧
        (s.pairs[k].enabled = false → enable = 1 → free → ¬reached (evenOf k) →
          Answered c s .ok (le8 1 ++ le8 d) .none
            (State.restartPair k
              { s.heard with
                pairs := s.pairs.set k { s.pairs[k] with enabled := true, deadTime := d }
                chans := s.chans.set (oddOf k) { odd with locked := true, tb := s.chans[evenOf k].tb } })) ∧
        (s.pairs[k].enabled = true → enable = 1 →
          Answered c s .ok (le8 1 ++ le8 d) .none
            { s.heard with pairs := s.pairs.set k (s.pairs[k].setDeadTime d) }) ∧
        (s.pairs[k].enabled = true → enable = 0 → ¬reached (oddOf k) →
          Answered c s .ok (le8 0 ++ le8 d) .none
            { s.heard with
              pairs := s.pairs.set k
                { enabled := false, deadTime := d, a := false, b := false, riseA := none, riseB := none }
              chans := s.chans.set (oddOf k) { odd with locked := false } }) ∧
        (s.pairs[k].enabled = false → enable = 0 →
          Answered c s .ok (le8 0 ++ le8 d) .none
            { s.heard with pairs := s.pairs.set k { s.pairs[k] with deadTime := d } }))) ∧
  (∀ (s : State) (seq : Byte) (k : Fin 8) (d : Fin 64) (f : Fin 4),
    let c := Instr.pairConfig seq (le8 k.val ++ le8 0 ++ le8 d.val)
    s.Ready c → s.pairs[k].enabled = true → s.faults[f].latched = true → s.faults[f].action ≠ .none →
    s.faults[f].chans.has (oddOf k) = true →
      ∃ t : State, Answered c s .ok (le8 0 ++ le8 d.val) .none t ∧
        t.chans[oddOf k].forced = true ∧ t.chans[oddOf k].locked = false ∧
        (s.faults[f].action = .stop → t.chans[oddOf k].state = .faulted) ∧
        (∀ x : Fin 16, x ≠ oddOf k → t.chans[x] = s.chans[x])) ∧
  (∀ (s : State) (seq : Byte) (k : Fin 8) (d : Fin 64) (f : Fin 4),
    let c := Instr.pairConfig seq (le8 k.val ++ le8 1 ++ le8 d.val)
    let odd := s.chans[oddOf k]
    s.Ready c → s.pairs[k].enabled = false → odd.state = .idle → odd.queue = [] → odd.pendingLevel = none →
    odd.replacement = none → s.faults[f].latched = true → s.faults[f].action ≠ .none →
    s.faults[f].chans.has (evenOf k) = true →
      ∃ t : State, Answered c s .ok (le8 1 ++ le8 d.val) .none t ∧
        t.chans[oddOf k] = { odd with locked := true, forced := true, tb := s.chans[evenOf k].tb } ∧
        (∀ x : Fin 16, x ≠ oddOf k → t.chans[x] = s.chans[x]))

/-- R93 to R95: ROUTE_SET replaces the entry whole, PIN_CONFIG sets the idle state, each with a response of what it left;
OUT_QUERY gives for OUT0 to OUT19 in order the winning entry or 0xFF, and the driven value. -/
def Obligations.RouterRequestsEffect : Prop :=
  (∀ (s : State) (seq : Byte) (p : List Byte), p.length ≠ 6 → s.Ready (.routeSet seq p) →
    Refused (.routeSet seq p) s .badLength) ∧
  (∀ (s : State) (seq : Byte) (p : List Byte), p.length ≠ 2 → s.Ready (.pinConfig seq p) →
    Refused (.pinConfig seq p) s .badLength) ∧
  (((∀ (s : State) (seq : Byte) (e en src pin prio inv : Nat),
    e < 256 → en < 256 → src < 256 → pin < 256 → prio < 256 → inv < 256 →
    let p := le8 e ++ le8 en ++ le8 src ++ le8 pin ++ le8 prio ++ le8 inv
    s.Ready (.routeSet seq p) →
      (23 < e ∨ 1 < en ∨ 15 < src ∨ 19 < pin ∨ 3 < prio ∨ 1 < inv → Refused (.routeSet seq p) s .badArg) ∧
      (∀ (i : Fin 24) (c : Fin 16) (o : Fin 20) (r : Fin 4), e = i.val → src = c.val → pin = o.val → prio = r.val →
        en ≤ 1 → inv ≤ 1 →
        Answered (.routeSet seq p) s .ok (le8 en ++ le8 src ++ le8 pin ++ le8 prio ++ le8 inv) .none
          { s.heard with
          routes := s.routes.set i
            { enabled := decide (en = 1), source := c, pin := o, priority := r, invert := decide (inv = 1) } })) ∧
  (∀ (s : State) (seq : Byte) (pin d : Nat), pin < 256 → d < 256 →
    let p := le8 pin ++ le8 d
    s.Ready (.pinConfig seq p) →
      (19 < pin ∨ 2 < d → Refused (.pinConfig seq p) s .badArg) ∧
      (∀ (o : Fin 20) (v : Drive), pin = o.val → d = v.code →
        Answered (.pinConfig seq p) s .ok (le8 d) .none { s.heard with idles := s.idles.set o v }))) ∧
  (∀ (s : State) (seq : Byte), s.Ready (.outQuery seq []) →
    Answered (.outQuery seq []) s .ok
      ((List.finRange 20).flatMap fun o =>
        [match s.winner o with
          | some e => BitVec.ofNat 8 e.val
          | none => 0xFF,
         match s.pinValue o with
          | .low => 0
          | .high => 1
          | .float => 2])
      .none s.heard))

/-! ## Requests to the fault monitor and the speed monitor -/

/-- R108. -/
def Obligations.FaultConfigEffect : Prop :=
  (∀ (s : State) (seq : Byte) (p : List Byte), p.length ≠ 6 → s.Ready (.faultConfig seq p) →
    Refused (.faultConfig seq p) s .badLength) ∧
  (∀ (s : State) (seq : Byte) (n action : Nat) (set : ChSet) (polarity filter : Nat),
    n < 256 → action < 256 → polarity < 256 → filter < 256 →
    let c := Instr.faultConfig seq (le8 n ++ le8 action ++ le16 set.toNat ++ le8 polarity ++ le8 filter)
    let inRange := n ≤ 3 ∧ action ≤ 2 ∧
      (n ≤ 1 → polarity ≤ 1 ∧ 1 ≤ filter ∧ filter ≤ 16) ∧ (2 ≤ n → polarity = 0 ∧ filter = 0)
    s.Ready c →
      (¬inRange → Refused c s .badArg) ∧
      (∀ (f : Fin 4) (a : Action), n = f.val → action = a.code → inRange →
        (s.faults[f].latched = true → Refused c s .state) ∧
        (s.faults[f].latched = false →
          AnsweredOk c s (s.heard.modFault f fun src =>
            { src with
              action := a, chans := set
              input := if n ≤ 1 then
                  some { polarity := if polarity = 0 then .activeLow else .activeHigh, filter := filter, run := 0 }
                else none }))))

/-- R106: a clear is refused while the source is active; one of an unlatched source changes nothing; one of a latched source
unlatches it and reports. R107 in the reading of log entry 18 (DEDUCED): every FAULTED channel that no latched STOP source
covers any longer returns, whichever source had covered it. -/
def Obligations.FaultClearEffect : Prop :=
  (∀ (s : State) (seq : Byte) (p : List Byte), p.length ≠ 1 → s.Ready (.faultClear seq p) →
    Refused (.faultClear seq p) s .badLength) ∧
  (∀ (s : State) (seq n : Byte),
    let c := Instr.faultClear seq [n]
    let u := s.heard
    s.Ready c →
      (3 < n.toNat → Refused c s .badArg) ∧
      (∀ f : Fin 4, n.toNat = f.val →
        (u.faults[f].active = true → Refused c s .faultActive) ∧
        (u.faults[f].active = false → u.faults[f].latched = false → AnsweredOk c s u) ∧
        (u.faults[f].active = false → u.faults[f].latched = true →
          let t := (u.modFault f fun src => { src with latched := false }).offer (.faultCleared f)
          AnsweredOk c s { t with
          chans := Vector.ofFn fun x =>
            if s.chans[x].state = .faulted ∧ t.coveredByStop x = false then
              { s.chans[x] with state := if s.chans[x].queue = [] then .idle else .paused }
            else s.chans[x] })))

/-- R118: SM_CONFIG restarts the unit or turns it OFF, keeps the last count and the limit-reported flag, ends its
assertion (SPEED becomes inactive when no unit asserts), and answers with the record (R119). -/
def Obligations.SmConfigEffect : Prop :=
  (∀ (s : State) (seq : Byte) (p : List Byte), p.length ≠ 11 → s.Ready (.smConfig seq p) →
    Refused (.smConfig seq p) s .badLength) ∧
  (∀ (s : State) (seq : Byte) (n enable edge window min max K link : Nat),
    n < 256 → enable < 256 → edge < 256 → window < 65536 → min < 65536 → max < 65536 → K < 256 → link < 256 →
    let c := Instr.smConfig seq
      (le8 n ++ le8 enable ++ le8 edge ++ le16 window ++ le16 min ++ le16 max ++ le8 K ++ le8 link)
    let inRange := n ≤ 3 ∧ enable ≤ 1 ∧ edge ≤ 2 ∧ 1 ≤ window ∧ window ≤ 2000 ∧ min ≤ max ∧ 1 ≤ K ∧ K ≤ 15 ∧ link ≤ 1
    s.Ready c →
      (¬inRange → Refused c s .badArg) ∧
      (∀ (i : Fin 4) (e : Edge), n = i.val → edge = e.code → inRange →
        let unit : SpeedUnit :=
          { state := if enable = 1 then .firstWindow else .off
            edge := e
            window := window
            timer := if enable = 1 then some 0 else none
            previous := none
            edges := 0
            last := s.units[i].last
            minCount := min
            maxCount := max
            inRange := false
            streak := 0
            limit := K
            linked := decide (link = 1)
            limitReported := s.units[i].limitReported }
        let t := s.heard.modUnit i fun _ => unit
        Answered c s .ok unit.payload .none
          (if t.anyAsserting then t else t.modFault speed fun src => { src with active := false })))

/-- R14, R75, R109 and R119 with the layouts of Table 62: TB_QUERY, RP_QUERY, FAULT_QUERY and SM_QUERY give the records
and change nothing. -/
def Obligations.QueriesGiveTheRecords : Prop :=
  (∀ (s : State) (seq : Byte) (p : List Byte), p.length ≠ 1 → s.Ready (.faultQuery seq p) →
    Refused (.faultQuery seq p) s .badLength) ∧
  (∀ (s : State) (seq : Byte) (p : List Byte), p.length ≠ 1 → s.Ready (.smQuery seq p) →
    Refused (.smQuery seq p) s .badLength) ∧
  (∀ (s : State) (seq n : Byte), s.Ready (.tbQuery seq [n]) →
    (3 < n.toNat → Refused (.tbQuery seq [n]) s .badArg) ∧
    (∀ b : Fin 4, n.toNat = b.val → Answered (.tbQuery seq [n]) s .ok
      (le8 s.tbs[b].state.code ++ le8 s.tbs[b].divider ++ le16 s.tbs[b].period ++
        (match s.tbs[b].pendingPeriod with
          | none => [0, 0, 0, 0, 0]
          | some q => [1] ++ le16 q.period ++ notifyBytes q.notify) ++
        le16 s.tbs[b].counter ++ le8 s.tbs[b].slot.toNat ++ le32 s.tbs[b].periodCount.toNat ++
        flagByte s.tbs[b].stretch)
      .none s.heard)) ∧
  (∀ (s : State) (seq n : Byte), s.Ready (.rpQuery seq [n]) →
    (7 < n.toNat → Refused (.rpQuery seq [n]) s .badArg) ∧
    (∀ p : Fin 8, n.toNat = p.val → Answered (.rpQuery seq [n]) s .ok
      (le16 s.points[p].members.toNat ++ le16 s.points[p].arrived.toNat ++ le8 s.points[p].generation.toNat ++
        le16 s.points[p].timeout ++
        (match s.points[p].timer with
          | none => [0, 0, 0]
          | some e => [1] ++ le16 e))
      .none s.heard)) ∧
  (∀ (s : State) (seq n : Byte), s.Ready (.faultQuery seq [n]) →
    let u := s.heard
    (3 < n.toNat → Refused (.faultQuery seq [n]) s .badArg) ∧
    (∀ f : Fin 4, n.toNat = f.val → Answered (.faultQuery seq [n]) s .ok
      (le8 u.faults[f].action.code ++ le16 u.faults[f].chans.toNat ++
        (match u.faults[f].input with
          | none => [0, 0, 0]
          | some i => le8 i.polarity.code ++ le8 i.filter ++ le8 i.run) ++
        flagByte u.faults[f].active ++ flagByte u.faults[f].latched ++ le16 (u.coveredSet f).toNat)
      .none u)) ∧
  (∀ (s : State) (seq n : Byte), s.Ready (.smQuery seq [n]) →
    (3 < n.toNat → Refused (.smQuery seq [n]) s .badArg) ∧
    (∀ i : Fin 4, n.toNat = i.val → Answered (.smQuery seq [n]) s .ok
      (le8 s.units[i].state.code ++ le8 s.units[i].edge.code ++ le16 s.units[i].window ++
        (match s.units[i].timer with
          | none => [0, 0, 0]
          | some e => [1] ++ le16 e) ++
        le16 s.units[i].edges ++ le16 s.units[i].last ++ le16 s.units[i].minCount ++ le16 s.units[i].maxCount ++
        le8 s.units[i].limit ++ flagByte s.units[i].inRange ++ le8 s.units[i].streak ++
        flagByte s.units[i].linked ++ flagByte s.units[i].limitReported ++ flagByte s.units[i].asserting)
      .none s.heard))

/-! ## Requests to the report queue -/

/-- R152: the named sent record and every older one are removed; a number that names no sent record is refused. R153:
RPT_RESEND clears every sent flag and nothing else of the queue. Each response carries what is left. -/
def Obligations.RptAckAndRptResendEffect : Prop :=
  (∀ (s : State) (seq : Byte) (p : List Byte), p.length ≠ 1 → s.Ready (.rptAck seq p) →
    Refused (.rptAck seq p) s .badLength) ∧
  (∀ (s : State) (seq : Byte) (p : List Byte), p ≠ [] → s.Ready (.rptResend seq p) →
    Refused (.rptResend seq p) s .badLength) ∧
  (∀ (s : State) (seq n : Byte), s.Ready (.rptAck seq [n]) →
    (∀ (older newer : List Record) (r : Record), s.reports.records = older ++ r :: newer →
      (∀ x ∈ older, x.number ≠ n) → r.number = n → r.sent = true →
      Answered (.rptAck seq [n]) s .ok (le8 (older.length + 1) ++ le8 newer.length) .none
        { s.heard with reports := { s.reports with records := newer } }) ∧
    ((∀ r ∈ s.reports.records, r.number = n → r.sent = false) → Refused (.rptAck seq [n]) s .badArg)) ∧
  (∀ (s : State) (seq : Byte), s.Ready (.rptResend seq []) →
    Answered (.rptResend seq []) s .ok (le8 s.reports.records.length) .none
      { s.heard with
      reports := { s.reports with
        records := s.reports.records.map fun r => { r with sent := false } } })

/-! ## The events of time -/

/-- R2, R66, R114, R125, R133, R134: at a tick at which no timer is due every running timer counts, the break detector
counts while RXD is low up to its limit of 20, and nothing else changes. At one that is the expiry of timers, the others
count it, and these expire one after another in some order, each if it is still due then; what an expiry does is what its
row does (ArrivalReleaseAndExpiry, SpeedWindowExpiryEffect, LinkTimerExpiries, LinkBreakEffect), but for the row's note in
`msDone`. The model's choices: one tick takes every expiry and passes over the timers in `msDone` (log entry 4, DESIGN
CHOICE), their order is free (log entry 1), each ends with the arbiter's choice (log entry 30, DESIGN CHOICE), and the
reference count starts again (`msPhase`, log entry 9). -/
def Obligations.MillisecondTickEffect : Prop :=
  let due (u : State) (m : MsTimer) : Bool := match m with
    | .gather p => u.points[p].timer.any fun e => u.points[p].timeout ≤ e + 1
    | .window v => u.units[v].timer.any fun e => u.units[v].window ≤ e + 1
    | .silence => u.link.silenceTimer.any fun e => u.link.silenceLimit ≤ e + 1
    | .interByte => u.link.interByte.any fun e => 5 ≤ e + 1
    | .breakDetector => u.link.rxd == false && u.link.breakCount + 1 == 20
  let row : MsTimer → Instr
    | .gather p => .gatheringTimerExpiry p
    | .window v => .speedWindowExpiry v
    | .silence => .hostSilenceExpiry
    | .interByte => .interByteTimeout
    | .breakDetector => .linkBreak
  (∀ s : State, s.held = false → s.Settled →
    (s.msDone = [] → (∀ m, due s m = false) → exec .millisecondTick s = .next { s with
      points := Vector.ofFn fun p => { s.points[p] with timer := s.points[p].timer.map (· + 1) }
      units := Vector.ofFn fun u => { s.units[u] with timer := s.units[u].timer.map (· + 1) }
      link := { s.link with
        silenceTimer := s.link.silenceTimer.map (· + 1)
        interByte := s.link.interByte.map (· + 1)
        breakCount := if s.link.rxd = false ∧ s.link.breakCount < 20 then s.link.breakCount + 1 else s.link.breakCount }
      msPhase := 0 }) ∧
    (∃ (order : List MsTimer) (n : Nat), order.Nodup ∧ (∀ m, m ∈ order ↔ due s m = true ∧ m ∉ s.msDone) ∧
      let count (m : MsTimer) (limit : Nat) (timer : Option Nat) : Option Nat :=
        timer.map fun e => if m ∈ s.msDone ∨ limit ≤ e + 1 then e else e + 1
      let counted : State := { s with
        choice := n
        points := Vector.ofFn fun p =>
          { s.points[p] with timer := count (.gather p) s.points[p].timeout s.points[p].timer }
        units := Vector.ofFn fun u => { s.units[u] with timer := count (.window u) s.units[u].window s.units[u].timer }
        link := { s.link with
          silenceTimer := count .silence s.link.silenceLimit s.link.silenceTimer
          interByte := count .interByte 5 s.link.interByte
          breakCount :=
            if MsTimer.breakDetector ∉ s.msDone ∧ s.link.rxd = false ∧ s.link.breakCount + 1 < 20 then
              s.link.breakCount + 1
            else s.link.breakCount } }
      exec .millisecondTick s = .next (State.settle
        { order.foldl (fun u m => if due u m then (u.expire m).settle else u) counted with
          msDone := [], msPhase := 0 }))) ∧
  (∀ (s : State) (m : MsTimer), s.held = false → due s m = true → m ∉ s.msDone →
    exec (row m) s = .next (State.settle { s.expire m with msDone := m :: s.msDone }))

/-- R3 with R81 and R82: a tick of a HALTED timebase does not occur; one whose counter plus one equals P is its boundary;
any other moves the counter by one or wraps it, and the pairs whose even channel is bound to it follow their basic
signal. Nothing else changes. The model's readings: the command changes nothing on a HALTED timebase (log entry 3), it is
the whole boundary when the counter reaches P (log entry 5), and it starts the prescaler again (log entry 9). -/
def Obligations.TimebaseTickEffect : Prop :=
  ∀ (s : State) (b : Fin 4), s.held = false → s.Settled →
    (s.tbs[b].state = .halted → exec (.timebaseTick b) s = .next s) ∧
    (s.tbs[b].state = .running → s.tbs[b].counter + 1 = s.tbs[b].period →
      exec (.timebaseTick b) s = exec (.boundary b) s) ∧
    (s.tbs[b].state = .running → s.tbs[b].counter + 1 ≠ s.tbs[b].period →
      let moved : State := { s with
      tbs := s.tbs.set b { s.tbs[b] with
        counter := if s.tbs[b].counter = 4095 then 0 else s.tbs[b].counter + 1, prescaler := 0 } }
      exec (.timebaseTick b) s = .next { moved with
      pairs := Vector.ofFn fun k =>
        if s.pairs[k].enabled = true ∧ s.chans[evenOf k].tb = b ∧ s.chans[evenOf k].forced = false then
          s.pairs[k].tick (s.basicSignal (evenOf k)) (moved.basicSignal (evenOf k))
        else s.pairs[k] })

/-- R81, R82, R83: what an edge, a tick without an edge, a new dead time and a restart do to A, B and the rise delays. The
row of a rise delay's expiry is the pair's part of the coming tick, taken ahead of it (log entry 5, DESIGN CHOICE): where
that tick is no boundary, leaves the basic signal at the delay's level and brings the delay to D, its signal becomes high
and the delay absent, and nothing else changes. Where neither delay is due so, absent or present, nothing changes (log
entry 3). -/
def Obligations.PairEdgesAndRiseDelays : Prop :=
  (∀ p : Pair,
    (p.deadTime = 0 → p.edge true = { p with a := true, b := false, riseA := none, riseB := none } ∧
      p.edge false = { p with a := false, b := true, riseA := none, riseB := none }) ∧
    (p.deadTime ≠ 0 → p.edge true = { p with b := false, riseA := some 0, riseB := none } ∧
      p.edge false = { p with a := false, riseA := none, riseB := some 0 }) ∧
    (∀ n, p.riseA = some n → ∀ x, p.tick x x =
      if p.deadTime ≤ n + 1 then { p with a := true, riseA := none } else { p with riseA := some (n + 1) }) ∧
    (∀ n, p.riseA = none → p.riseB = some n → ∀ x, p.tick x x =
      if p.deadTime ≤ n + 1 then { p with b := true, riseB := none } else { p with riseB := some (n + 1) }) ∧
    (p.riseA = none → p.riseB = none → ∀ x, p.tick x x = p) ∧
    (∀ x y : Bool, x ≠ y → p.tick x y = p.edge y) ∧
    (∀ d n, p.riseA = some n → p.setDeadTime d =
      if d ≤ n then { p with deadTime := d, a := true, riseA := none } else { p with deadTime := d }) ∧
    (∀ d n, p.riseA = none → p.riseB = some n → p.setDeadTime d =
      if d ≤ n then { p with deadTime := d, b := true, riseB := none } else { p with deadTime := d }) ∧
    (∀ x, p.restart x = Pair.edge { p with a := false, b := false, riseA := none, riseB := none } x)) ∧
  (∀ (s : State) (k : Fin 8), s.held = false → s.Settled →
    let c := evenOf k
    let tb := s.tbs[s.chans[c].tb]
    let next : Timebase := { tb with counter := if tb.counter = 4095 then 0 else tb.counter + 1 }
    let due (delay : Option Nat) (x : Prop) : Prop :=
      s.pairs[k].enabled = true ∧ tb.state = .running ∧ s.chans[c].forced = false ∧ tb.counter + 1 ≠ tb.period ∧ x ∧
        ∃ n, delay = some n ∧ s.pairs[k].deadTime ≤ n + 1
    let dueA := due s.pairs[k].riseA (next.counter < s.chans[c].width tb.slot)
    let dueB := due s.pairs[k].riseB (s.chans[c].width tb.slot ≤ next.counter)
    (dueA → exec (.pairRiseDelayExpiry k) s = .next { s with
      pairs := s.pairs.set k { s.pairs[k] with a := true, riseA := none } }) ∧
    (dueB → exec (.pairRiseDelayExpiry k) s = .next { s with
      pairs := s.pairs.set k { s.pairs[k] with b := true, riseB := none } }) ∧
    (¬dueA → ¬dueB → exec (.pairRiseDelayExpiry k) s = .next s))

/-- R4, R5, R6, R39: at a boundary, or a start boundary, the timebase begins its next period, then its APPLIED report for a
notified pending period and the handling by every bound channel follow, in some order (log entry 1). That each part is
taken whole, so that no report enters between two reports of one channel, is the model's choice: R5 and R149 leave the entry
of the APPLIED and of different channels' reports in either order (log entry 31, DESIGN CHOICE). A channel's handling is the six
stages in their order, then what the boundary is to the pair of an even channel: a restart at a start or where stage 6
lifted the forced flag, else a tick (R81 to R83). The stages' effects are in ProgramAdvance and
PendingLevelListDutyAndForcedFlag. Whatever the order: no bound channel keeps a pending level, list or control, its duty is
latched against the new P, and its forced flag is lifted when no source covers it; other timebases, and channels bound to
them that belong to no point, keep all. BOUNDARY does not occur while the timebase is HALTED or its counter is elsewhere
(R3, R7; log entry 3); it starts the prescaler again (log entry 9). -/
def Obligations.BoundaryEffect : Prop :=
  (∀ (s : State) (b : Fin 4) (starts : Bool), ∃ (order : List BoundaryPart) (n : Nat),
    order.Perm
      ((match s.tbs[b].pendingPeriod with
        | some p => p.notify.toList.map BoundaryPart.applied
        | none => []) ++
      ((List.finRange 16).filter fun c => s.chans[c].tb == b).map BoundaryPart.channel) ∧
    s.boundary starts b = order.foldl (fun u part => match part with
        | .applied seq => u.offer (.applied seq (.tbPeriod b))
        | .channel c =>
          let latched := ((((u.stageLevel c).stageReplacement c).stageControl c).stageAdvance c).stageLatch c
          let v := latched.stageUnforce c
          let k := pairOf c
          if c = evenOf k ∧ v.pairActs k = true then
            { v with
              pairs := v.pairs.set k
                (if starts = true ∨ latched.chans[c].forced = true then v.pairs[k].restart (v.basicSignal c)
                else v.pairs[k].tick (s.basicSignal c) (v.basicSignal c)) }
          else v)
      { s with
        choice := n
        tbs := s.tbs.set b { s.tbs[b] with
          counter := 0, slot := if starts then 0 else s.tbs[b].slot + 1, periodCount := s.tbs[b].periodCount + 1
          stretch := false, prescaler := 0, pendingPeriod := none
          period := match s.tbs[b].pendingPeriod with
            | some p => p.period
            | none => s.tbs[b].period } }) ∧
  (∀ (s : State) (b : Fin 4), s.held = false → s.Settled → s.tbs[b].state = .running →
    s.tbs[b].counter + 1 = s.tbs[b].period →
    exec (.boundary b) s = .next (s.boundary false b).settle ∧
    ∃ t : State, exec (.boundary b) s = .next t ∧
      t.tbs[b] = { s.tbs[b] with
        counter := 0, slot := s.tbs[b].slot + 1, periodCount := s.tbs[b].periodCount + 1, stretch := false
        prescaler := 0, pendingPeriod := none
        period := match s.tbs[b].pendingPeriod with
          | some p => p.period
          | none => s.tbs[b].period } ∧
      (∀ j : Fin 4, j ≠ b → t.tbs[j] = s.tbs[j]) ∧
      (∀ x : Fin 16, s.chans[x].tb = b →
        t.chans[x].pendingLevel = none ∧ t.chans[x].replacement = none ∧ t.chans[x].pendingControl = .none ∧
          t.chans[x].state ≠ .armed ∧
          16 * t.chans[x].dutyI + t.chans[x].dutyF = t.chans[x].level * t.tbs[b].period / 256 ∧
          t.chans[x].dutyF < 16 ∧
          t.chans[x].forced = (s.chans[x].forced && s.covered x) ∧
          t.chans[x].quota = s.chans[x].quota ∧ t.chans[x].locked = s.chans[x].locked ∧
          t.chans[x].tb = b ∧ t.chans[x].mode = s.chans[x].mode ∧ t.chans[x].safe = s.chans[x].safe) ∧
      (∀ x : Fin 16, s.chans[x].tb ≠ b → (∀ p : Fin 8, s.points[p].members.has x = false) →
        t.chans[x] = s.chans[x]) ∧
      (∀ k : Fin 8, s.chans[evenOf k].tb ≠ b → t.pairs[k] = s.pairs[k]) ∧
      t.routes = s.routes ∧ t.idles = s.idles ∧ t.faults = s.faults ∧ t.units = s.units ∧ t.replay = s.replay ∧
      t.msPhase = s.msPhase ∧ t.samplePhase = s.samplePhase) ∧
  (∀ (s : State) (b : Fin 4), s.held = false → s.Settled →
    s.tbs[b].state = .halted ∨ s.tbs[b].counter + 1 ≠ s.tbs[b].period → exec (.boundary b) s = .next s)

/-- Stages 3 and 4 (R42 to R51): pending control, the head in progress, what a started head of each kind does, the
bound, the end of the program, and where a completed head goes. -/
def Obligations.ProgramAdvance : Prop :=
  ∀ (s : State) (c : Fin 16) (rest : List Segment),
    let ch := s.chans[c]
    let count := s.tbs[ch.tb].periodCount
    let head (g : Segment) := ch.queue = g :: rest
    let level (start target n k : Nat) : Int :=
      start + Int.sign ((target : Int) - start) * (((target : Int) - start).natAbs * k / n : Nat)
    (ch.state ≠ .running → s.stageAdvance c = s) ∧
    (ch.state = .running →
      (∀ n, head (.hold n) → 1 ≤ ch.run.k → ch.run.k < n →
        s.stageAdvance c = s.modChan c fun x => { x with run := { x.run with k := x.run.k + 1 } }) ∧
      (∀ target n, head (.ramp target n) → 1 ≤ ch.run.k → ch.run.k < n → ∃ l : Nat,
        (l : Int) = level ch.run.start target n (ch.run.k + 1) ∧
        s.stageAdvance c = s.modChan c fun x => { x with run := { x.run with k := x.run.k + 1 }, level := l }) ∧
      (∀ p, head (.sync p) → ch.run.released = true → ch.stamp = count → s.stageAdvance c = s) ∧
      (∀ g, head g →
        ((∃ n, (g = .hold n ∨ ∃ target, g = .ramp target n) ∧ 1 ≤ ch.run.k ∧ n ≤ ch.run.k) ∨
          (∃ p, g = .sync p ∧ ch.run.released = true ∧ ch.stamp ≠ count)) →
        s.stageAdvance c = State.startHeads c rest.length (s.completeHead c)) ∧
      (∀ g, head g →
        ((∃ n, (g = .hold n ∨ ∃ target, g = .ramp target n) ∧ ch.run.k = 0) ∨
          (∃ p, g = .sync p ∧ ch.run.released = false) ∨ (∃ l, g = .set l) ∨ (∃ tag, g = .note tag)) →
        s.stageAdvance c = State.startHeads c (rest.length + 1) s) ∧
      (ch.queue = [] →
        s.stageAdvance c = (s.offer (.programEnd c)).modChan c fun x => { x with state := .idle })) ∧
    (∀ n, ch.queue = [] → State.startHeads c n s = (s.offer (.programEnd c)).modChan c fun x => { x with state := .idle }) ∧
    (∀ g, head g → State.startHeads c 0 s = s) ∧
    (∀ l n, head (.set l) →
      State.startHeads c (n + 1) s = State.startHeads c n ((s.modChan c fun x => { x with level := l }).completeHead c)) ∧
    (∀ tag n, head (.note tag) →
      State.startHeads c (n + 1) s = State.startHeads c n ((s.offer (.note c tag count)).completeHead c)) ∧
    (∀ N n, head (.hold N) →
      State.startHeads c (n + 1) s = s.modChan c fun x => { x with run := { x.run with k := 1 } }) ∧
    (∀ target N n, head (.ramp target N) → 1 ≤ N → ∃ l : Nat, (l : Int) = level ch.level target N 1 ∧
      State.startHeads c (n + 1) s =
        s.modChan c fun x => { x with run := { x.run with k := 1, start := ch.level }, level := l }) ∧
    (∀ p n, head (.sync p) → s.points[p].members.has c = true → State.startHeads c (n + 1) s = s.arrive c p) ∧
    (∀ p n, head (.sync p) → s.points[p].members.has c = false →
      State.startHeads c (n + 1) s = State.startHeads c n ((s.offer (.syncSkipped c p)).completeHead c)) ∧
    (∀ g, head g →
      (ch.mode = .oneShot → s.completeHead c =
        { s.modChan c fun x => { x with queue := rest, run := .clear } with free := s.free + 1 }) ∧
      (ch.mode = .cyclic → s.completeHead c = s.modChan c fun x => { x with queue := rest ++ [g], run := .clear })) ∧
    (s.stageControl c = s.modChan c fun x => { x with
      pendingControl := .none
      state :=
        if x.state = .running ∧ x.pendingControl = .pause then .paused
        else if x.state = .paused ∧ x.pendingControl = .resume then .running
        else if x.state = .armed then .running
        else x.state })

/-- R65, R67: an arrival that does not complete the set waits, the first one starting the timer; the one that completes it
releases every member at once, each stamped with its own timebase's period count. R69: the due expiry of a gathering
timer releases every arrived channel and reports the missing ones. The model's readings: the row takes its timer's part
of the coming millisecond tick and is noted in `msDone` (log entry 4, DESIGN CHOICE), and it changes nothing where the
timer is stopped (log entry 3). -/
def Obligations.ArrivalReleaseAndExpiry : Prop :=
  (∀ (s : State) (c : Fin 16) (p : Fin 8),
    let pt := s.points[p]
    (pt.arrived.add c ≠ pt.members →
      s.arrive c p = { s with
        points := s.points.set p { pt with
          arrived := pt.arrived.add c
          timer := if pt.arrived = 0 then (if pt.timeout = 0 then none else some 0) else pt.timer }
        chans := s.chans.set c { s.chans[c] with state := .waiting } }) ∧
    (pt.arrived.add c = pt.members →
      s.arrive c p = State.offer (.syncRelease p (pt.generation + 1) pt.members)
        { s with
          points := s.points.set p { pt with generation := pt.generation + 1, arrived := 0, timer := none }
          chans := Vector.ofFn fun x =>
            if pt.members.has x then
              { s.chans[x] with
                state := if s.chans[x].state = .waiting then .running else s.chans[x].state
                stamp := s.tbs[s.chans[x].tb].periodCount
                run := { s.chans[x].run with released := true } }
            else s.chans[x] })) ∧
  (∀ (s : State) (p : Fin 8), s.held = false → s.Settled →
    let pt := s.points[p]
    (∀ e, pt.timer = some e → pt.timeout ≤ e + 1 → MsTimer.gather p ∉ s.msDone →
      exec (.gatheringTimerExpiry p) s = .next (State.settle (State.offer
        (.syncTimeout p (pt.generation + 1) pt.arrived (pt.members &&& ~~~pt.arrived))
        { s with
          points := s.points.set p { pt with generation := pt.generation + 1, arrived := 0, timer := none }
          chans := Vector.ofFn fun x =>
            if pt.arrived.has x then
              { s.chans[x] with
                state := if s.chans[x].state = .waiting then .running else s.chans[x].state
                stamp := s.tbs[s.chans[x].tb].periodCount
                run := { s.chans[x].run with released := true } }
            else s.chans[x]
          msDone := .gather p :: s.msDone }))) ∧
    (pt.timer = none → exec (.gatheringTimerExpiry p) s = .next s))

/-- R114 to R117: the due expiry of a window latches the count and begins the next window; a first window is passed over; a
judged one moves the streak and the flags; SPEED is active afterwards exactly when a unit asserts it. The end of a judged
window queues SPEED_LIMIT or SPEED_OK, once each time the limits are left or met again. Where with it the first unit
begins to assert, SPEED's activation acts on the channels (ActivationLatchesAndActs), and its FAULT_RAISED, if SPEED was not
latched, enters before or after the unit's own report. The row takes its timer's part of the coming millisecond tick (log
entry 4, DESIGN CHOICE). -/
def Obligations.SpeedWindowExpiryEffect : Prop :=
  (∀ (s : State) (i : Fin 4) (e : Nat), s.held = false → s.Settled → s.units[i].timer = some e →
    s.units[i].window ≤ e + 1 → MsTimer.window i ∉ s.msDone → s.faults[speed].active = s.anyAsserting →
    let u := s.units[i]
    let out := u.edges < u.minCount ∨ u.maxCount < u.edges
    let closed := { u with last := u.edges, edges := 0, timer := some 0 }
    ∃ t : State, exec (.speedWindowExpiry i) s = .next t ∧
      (u.state = .firstWindow → t.units[i] = { closed with state := .measuring }) ∧
      (u.state = .measuring → out →
        t.units[i] = { closed with streak := min 15 (u.streak + 1), inRange := false, limitReported := true }) ∧
      (u.state = .measuring → ¬out → t.units[i] = { closed with streak := 0, inRange := true, limitReported := false }) ∧
      (∀ j : Fin 4, j ≠ i → t.units[j] = s.units[j]) ∧
      t.faults[speed].active = t.anyAsserting ∧
      (∀ f : Fin 4, f ≠ speed → t.faults[f] = s.faults[f]) ∧
      t.tbs = s.tbs ∧ t.routes = s.routes ∧ t.idles = s.idles ∧ t.free = s.free) ∧
  (∀ (s : State) (i : Fin 4),
    let u := s.units[i]
    let t := s.expireWindow i
    let out := u.edges < u.minCount ∨ u.maxCount < u.edges
    let report : Option Report :=
      if out then
        (if u.limitReported = true then none
        else some (.speedLimit i u.edges (if u.edges < u.minCount then .low else .high)))
      else if u.limitReported = true then some (.speedOk i u.edges)
      else none
    let own := match report with
      | some r => s.reports.offer r
      | none => s.reports
    let raised := Report.faultRaised speed s.faults[speed].chans s.faults[speed].action
    let begins := s.anyAsserting = false ∧ t.anyAsserting = true
    u.state = .measuring →
      (¬begins → t.reports = own ∧ t.chans = s.chans ∧ t.pairs = s.pairs ∧ t.points = s.points) ∧
      (begins →
        t.chans = (s.activateFault speed).chans ∧ t.pairs = (s.activateFault speed).pairs ∧
        t.points = (s.activateFault speed).points ∧
        (s.faults[speed].latched = true → t.reports = own) ∧
        (s.faults[speed].latched = false → t.reports = own.offer raised ∨
          ∃ r, report = some r ∧ t.reports = (s.reports.offer raised).offer r)))

/-- R125, R133 with R100: the due expiries of the inter-byte timer and of the host-silence timer. The model's readings: each
row takes its timer's part of the coming millisecond tick and is noted in `msDone` (log entry 4, DESIGN CHOICE), and changes
nothing where its timer is stopped (log entry 3). -/
def Obligations.LinkTimerExpiries : Prop :=
  ∀ s : State, s.held = false → s.Settled →
    (∀ e, s.link.interByte = some e → 5 ≤ e + 1 → MsTimer.interByte ∉ s.msDone →
      exec .interByteTimeout s = .next { s with
        link := { s.link with
          receiver := .hunt, interByte := none, timeouts := min 255 (s.link.timeouts + 1) }
        msDone := .interByte :: s.msDone }) ∧
    (∀ e, s.link.silenceTimer = some e → s.link.silenceLimit ≤ e + 1 → MsTimer.silence ∉ s.msDone →
      exec .hostSilenceExpiry s = .next (State.settle
        { State.activateFault silence { s with link := { s.link with silenceTimer := none } } with
          msDone := .silence :: s.msDone })) ∧
    (s.link.interByte = none → exec .interByteTimeout s = .next s) ∧
    (s.link.silenceTimer = none → exec .hostSilenceExpiry s = .next s)

/-! ## Samples and faults -/

/-- R99 and R113: a sample moves the runs, clears the active flag of a source at its inactive level, and gives every unit
its input. The input of a unit that is OFF is not sampled; the first sample of one is kept and compared with nothing; a
later sample of another level is kept, and counted, up to 65535, where the unit's edge field selects it: a rise for RISING, a
fall for FALLING, either for BOTH. The sources whose active level brings the run to the filter become active (R102), two of them in a drawn order
(log entry 1). The command starts the reference count of the samples again (`samplePhase`, log entry 9, DEDUCED). With a
filter of 1 the first sample after a FAULT_CONFIG already makes its source active (log entry 27, DESIGN CHOICE). -/
def Obligations.InputSampleEffect : Prop :=
  (∀ (s : State) (lines : InputLines), s.held = false → s.Settled →
    let sampled : State := { s with
      inputs := lines
      samplePhase := 0
      faults := (s.faults.set 0 (s.faults[0].sample lines.flt[0])).set 1 (s.faults[1].sample lines.flt[1])
      units := Vector.ofFn fun u => s.units[u].sample lines.tach[u] }
    let rises (f : Fin 2) : Prop := s.faults[f].becomesActive lines.flt[f] = true
    (¬rises 0 → ¬rises 1 → exec (.inputSample lines) s = .next sampled) ∧
    (rises 0 → ¬rises 1 → exec (.inputSample lines) s = .next (State.settle (sampled.activateFault 0))) ∧
    (¬rises 0 → rises 1 → exec (.inputSample lines) s = .next (State.settle (sampled.activateFault 1))) ∧
    (rises 0 → rises 1 → ∃ (first : Fin 2) (n : Nat),
      exec (.inputSample lines) s = .next (State.settle
        (({ sampled with choice := n }.activateFault (if first = 0 then 0 else 1)).activateFault
          (if first = 0 then 1 else 0))))) ∧
  (∀ (src : FaultSource) (i : FltInput) (high : Bool), src.input = some i →
    let atLevel := (i.polarity = .activeLow ∧ high = false) ∨ (i.polarity = .activeHigh ∧ high = true)
    (atLevel → src.sample high = { src with input := some { i with run := min i.filter (i.run + 1) } } ∧
      (src.becomesActive high = true ↔ i.filter ≤ i.run + 1 ∧ src.active = false)) ∧
    (¬atLevel → src.sample high = { src with input := some { i with run := 0 }, active := false } ∧
      src.becomesActive high = false)) ∧
  (∀ (u : SpeedUnit) (high : Bool),
    (u.state = .off → u.sample high = u) ∧
    (u.state ≠ .off → u.previous = none → u.sample high = { u with previous := some high }) ∧
    (u.state ≠ .off → u.previous = some high → u.sample high = u) ∧
    (u.state ≠ .off → u.previous = some (!high) →
      let selected := (u.edge = .rising ∧ high = true) ∨ (u.edge = .falling ∧ high = false) ∨ u.edge = .both
      (selected → u.sample high = { u with previous := some high, edges := min 65535 (u.edges + 1) }) ∧
      (¬selected → u.sample high = { u with previous := some high })))

/-- R102, R104, R105: a source that becomes active latches and reports once; the channels it then covers are forced, and
a STOP source makes those not locked FAULTED with no pending control and withdraws the arrival of a WAITING one (R71),
which stops the timer of a point it leaves empty; an already latched source does nothing more. -/
def Obligations.ActivationLatchesAndActs : Prop :=
  ∀ (s : State) (f : Fin 4),
    let t := s.activateFault f
    let covered (x : Fin 16) : Bool :=
      s.faults[f].action != .none && s.faults[f].chans.has (if s.pairs[pairOf x].enabled then evenOf (pairOf x) else x)
    let stopped (x : Fin 16) : Bool :=
      covered x && s.faults[f].action == .stop && !s.chans[x].locked && s.chans[x].state != .faulted
    (s.faults[f].latched = true → t = s.modFault f fun src => { src with active := true }) ∧
    (s.faults[f].latched = false →
      t.faults[f] = { s.faults[f] with active := true, latched := true } ∧
      (∀ j : Fin 4, j ≠ f → t.faults[j] = s.faults[j]) ∧
      t.reports = s.reports.offer (.faultRaised f s.faults[f].chans s.faults[f].action) ∧
      (∀ x : Fin 16, t.chans[x] = { s.chans[x] with
        forced := s.chans[x].forced || covered x
        state := if stopped x then .faulted else s.chans[x].state
        pendingControl := if stopped x then .none else s.chans[x].pendingControl }) ∧
      (∀ p : Fin 8,
        let left := ∃ x : Fin 16, stopped x = true ∧ s.chans[x].waitsAt p = true
        t.points[p].members = s.points[p].members ∧ t.points[p].generation = s.points[p].generation ∧
        t.points[p].timeout = s.points[p].timeout ∧
        (∀ x : Fin 16, t.points[p].arrived.has x =
          (s.points[p].arrived.has x && !(stopped x && s.chans[x].waitsAt p))) ∧
        (left → t.points[p].arrived = 0 → t.points[p].timer = none) ∧
        (¬left ∨ t.points[p].arrived ≠ 0 → t.points[p].timer = s.points[p].timer)) ∧
      (∀ k : Fin 8, t.pairs[k] =
        if covered (evenOf k) && s.pairs[k].enabled then s.pairs[k].low else s.pairs[k]) ∧
      t.tbs = s.tbs ∧ t.free = s.free ∧ t.routes = s.routes ∧ t.idles = s.idles ∧ t.units = s.units ∧ t.link = s.link)

/-! ## Resets -/

/-- R146: RESET_DEVICE resets nothing when it is taken; the soft reset is tied to its response. R155 with R147, R136 and
section 6.6: POWER_ON_RESET, PIN_RESET and the end of that response set every block to the reset values of State.reset,
with RESTARTED as the only record, which the arbiter sends at once; RST_N_ASSERT holds the part at these values with no
record (log entry 12). The levels of the outside lines stay (log entry 8). PIN_RESET does so in every state, also where
RST_N was not low, and POWER_ON_RESET leaves RST_N high (log entry 13, DEDUCED). -/
def Obligations.ResetEffects : Prop :=
  (∀ (s : State) (seq : Byte), s.Ready (.resetDevice seq []) →
    Answered (.resetDevice seq []) s .ok [] .softReset s.heard) ∧
  (∀ s : State,
    let values (q : ReportQueue) : State := { State.reset with
      link := { Link.reset with rxd := s.link.rxd }
      reports := q
      inputs := s.inputs
      choice := s.choice
      pending := s.pending }
    let restarted (cause : ResetCause) (sent : Bool) : ReportQueue :=
      { records := [{ number := 0, report := .restarted cause, sent := sent }], next := 1, window := 4 }
    let sending (cause : ResetCause) : State :=
      { values (restarted cause true) with
        link := { Link.reset with
          rxd := s.link.rxd
          tx := .sending { kind := .report, bytes := frameBytes [0, 0x40, BitVec.ofNat 8 cause.code] } .b115200 0 } }
    exec .powerOnReset s = .next (sending .powerOn) ∧
    exec .pinReset s = .next (sending .pin) ∧
    exec .rstNAssert s = .next { values { records := [], next := 0, window := 4 } with held := true } ∧
    ∀ frame rate age, s.link.tx = .sending frame rate age → frame.kind = .response .softReset →
      exec .transmitCompletion s = .next (sending .soft))

/-- The reset values that Tables 12, 15, 21, 26, 32, 36, 39, 42, 47 and 55 give. -/
def Obligations.ResetValues : Prop :=
  let s := State.reset
  (∀ b : Fin 4, s.tbs[b].state = .halted ∧ s.tbs[b].divider = 1 ∧ s.tbs[b].period = 1024 ∧
    s.tbs[b].pendingPeriod = none ∧ s.tbs[b].counter = 0 ∧ s.tbs[b].slot = 0 ∧ s.tbs[b].periodCount = 0 ∧
    s.tbs[b].stretch = false) ∧
  s.free = 512 ∧
  (∀ c : Fin 16, s.chans[c].state = .idle ∧ s.chans[c].tb = 0 ∧ s.chans[c].mode = .oneShot ∧
    s.chans[c].safe = false ∧ s.chans[c].level = 0 ∧ s.chans[c].dutyI = 0 ∧ s.chans[c].dutyF = 0 ∧
    s.chans[c].pendingLevel = none ∧ s.chans[c].pendingControl = .none ∧ s.chans[c].stamp = 0 ∧
    s.chans[c].forced = false ∧ s.chans[c].locked = false ∧ s.chans[c].queue = [] ∧
    s.chans[c].replacement = none ∧ s.chans[c].quota = 32) ∧
  (∀ p : Fin 8, s.points[p] = { members := 0, arrived := 0, generation := 0, timeout := 0, timer := none }) ∧
  (∀ k : Fin 8, s.pairs[k] =
    { enabled := false, deadTime := 0, a := false, b := false, riseA := none, riseB := none }) ∧
  (∀ e : Fin 24, s.routes[e] = { enabled := false, source := 0, pin := 0, priority := 0, invert := false }) ∧
  (∀ o : Fin 20, s.idles[o] = .float ∧ s.pinValue o = .float) ∧
  (∀ f : Fin 4, s.faults[f].action = .none ∧ s.faults[f].chans = 0 ∧ s.faults[f].active = false ∧
    s.faults[f].latched = false ∧
    s.faults[f].input = if f.val < 2 then some { polarity := .activeLow, filter := 4, run := 0 } else none) ∧
  (∀ u : Fin 4, s.units[u] =
    { state := .off, edge := .rising, window := 100, timer := none, previous := none, edges := 0, last := 0,
      minCount := 0, maxCount := 65535, inRange := false, streak := 0, limit := 3, linked := false,
      limitReported := false }) ∧
  (s.link.rate = .b115200 ∧ s.link.pendingRate = none ∧ s.link.receiver = .hunt ∧ s.link.interByte = none ∧
    s.link.inbound = [] ∧ s.link.holding = [] ∧ s.link.tx = .idle ∧ s.txd = true ∧ s.link.crcErrors = 0 ∧
    s.link.framingErrors = 0 ∧ s.link.timeouts = 0 ∧ s.link.droppedFrames = 0 ∧ s.link.droppedMark = false ∧
    s.link.silenceLimit = 0 ∧ s.link.silenceTimer = none ∧ s.link.breakCount = 0) ∧
  s.replay = none ∧
  s.reports = { records := [{ number := 0, report := .restarted .powerOn, sent := false }], next := 1, window := 4 }

/-! ## The link -/

/-- R123 with Table 45, R126, R134, R122: a byte received outside the end of a frame, a character fault, and the edges of
RXD. A character received leaves RXD high, the break count at 0 if that is a rise, and a character fault leaves it low (log
entry 10, DEDUCED). -/
def Obligations.ReceiverAndLineEvents : Prop :=
  ∀ s : State, s.held = false → s.Settled →
    let line : Link := { s.link with rxd := true, rxChar := none, breakCount := if s.link.rxd then s.link.breakCount else 0 }
    let store (r : Receiver) : Host.Outcome State Fault Refusal :=
      .next { s with link := { line with receiver := r, interByte := some 0 } }
    (∀ b : Byte,
      (s.link.receiver = .hunt →
        exec (.characterReceived b) s = if b = 0xA5 then store .length else .next { s with link := line }) ∧
      (s.link.receiver = .length →
        exec (.characterReceived b) s =
          if 2 ≤ b.toNat ∧ b.toNat ≤ 198 then store (.body b [])
          else .next { s with
          link := { line with
            framingErrors := min 255 (s.link.framingErrors + 1), receiver := .hunt, interByte := none } }) ∧
      (∀ len bytes, s.link.receiver = .body len bytes →
        exec (.characterReceived b) s =
          if bytes.length + 1 < len.toNat then store (.body len (bytes ++ [b]))
          else store (.check len (bytes ++ [b]) none)) ∧
      (∀ len bytes, s.link.receiver = .check len bytes none →
        exec (.characterReceived b) s = store (.check len bytes (some b))) ∧
      (∀ len bytes high, s.link.receiver = .check len bytes (some high) → crc16 (len :: bytes) ≠ high ++ b →
        exec (.characterReceived b) s = .next { s with
        link := { line with
          crcErrors := min 255 (s.link.crcErrors + 1), receiver := .hunt, interByte := none } })) ∧
    exec .characterFault s = .next { s with
    link := { s.link with
      framingErrors := min 255 (s.link.framingErrors + 1), receiver := .hunt, interByte := none
      rxChar := none, rxd := false } } ∧
    exec .rxdRisingEdge s = .next { s with
    link := { s.link with
      rxd := true, breakCount := if s.link.rxd then s.link.breakCount else 0 } } ∧
    exec .rxdFallingEdge s = .next { s with
    link := { s.link with
      rxd := false
      rxChar := if s.link.rxd = true ∧ s.link.rxChar = none then some { age := 0, bits := [] } else s.link.rxChar } }

/-- R157 with Table 57: the bytes of a frame are SYNC, LEN, the body and the CRC over LEN and the body, high byte first.
R124: the CRC's register starts at 0xFFFF and takes each byte bit by bit, the most significant first, with the generator
x^16 + x^12 + x^5 + 1; over the digits "123456789" it is 0x29B1. R123, R124: the characters of a whole well-formed request frame, received from HUNT with RXD high and no character
in progress, do exactly what the request command does, which the model takes as the frame's arrival (log entry 6, DESIGN
CHOICE; where RXD is low the two differ as log entry 28 says). -/
def Obligations.ReceivedFrameIsTheRequest : Prop :=
  (∀ body : List Byte,
    let len : Byte := BitVec.ofNat 8 body.length
    let crc := crc16 (len :: body)
    frameBytes body = 0xA5 :: len :: body ++ [crc.extractLsb' 8 8, crc.extractLsb' 0 8]) ∧
  (∀ bytes : List Byte, crc16 bytes =
    (bytes.flatMap fun b => (List.range 8).map b.getMsbD).foldl
      (fun (reg : BitVec 16) bit => if reg.msb = bit then reg <<< 1 else (reg <<< 1) ^^^ 0x1021#16) 0xFFFF#16) ∧
  crc16 [0x31, 0x32, 0x33, 0x34, 0x35, 0x36, 0x37, 0x38, 0x39] = 0x29B1#16 ∧
  ∀ (s : State) (seq type : Byte) (p : List Byte), payloadFits p = true → s.held = false → s.Settled →
    s.link.receiver = .hunt → s.link.rxd = true → s.link.rxChar = none →
      (frameBytes (seq :: type :: p)).foldl
        (fun o b => match o with
          | .next t => exec (.characterReceived b) t
          | other => other)
        (.next s) = exec (commandOfBody seq type p) s

/-- R122, R130, R135: the line TXD. It is high with no frame in flight; a frame's characters, and what is left of an aborted
one's, follow each other from age 0, each a low start bit, eight data bits with the least significant first and a high stop
bit, and the line is high after the last. Table 44: the four bit times, in reference periods; a character is ten of them.
R130, R132, R135: the end of a report frame, of a response without a tied effect, of a response that carries the
pending rate, which changes nothing else where it is the current rate or is no longer held (log entry 14, DEDUCED), and of an
aborted frame. What follows is the arbiter's choice. With the transmitter IDLE the two commands change nothing (log entry
3, DEDUCED). -/
def Obligations.FrameEnds : Prop :=
  (Rate.bitTime .b115200 = 278 ∧ Rate.bitTime .b230400 = 139 ∧ Rate.bitTime .b460800 = 69 ∧ Rate.bitTime .b921600 = 35 ∧
    ∀ rate : Rate, rate.charTime = 10 * rate.bitTime) ∧
  (∀ s : State, s.link.tx = .idle → s.txd = true) ∧
  (∀ (s : State) (frame : TxFrame) (rate : Rate) (age : Nat),
    s.link.tx = .sending frame rate age ∨ s.link.tx = .aborted frame rate age →
    let char := age / (10 * rate.bitTime)
    let bit := age % (10 * rate.bitTime) / rate.bitTime
    (∀ b, frame.bytes[char]? = some b →
      (bit = 0 → s.txd = false) ∧
      (1 ≤ bit → bit ≤ 8 → s.txd = b.getLsbD (bit - 1)) ∧
      (9 ≤ bit → s.txd = true)) ∧
    (frame.bytes.length ≤ char → s.txd = true)) ∧
  ∀ (s : State) (frame : TxFrame) (rate : Rate) (age : Nat),
    let idle : Link := { s.link with tx := .idle }
    (s.link.tx = .sending frame rate age → frame.kind = .report ∨ frame.kind = .response .none →
      exec .transmitCompletion s = .next (State.settle { s with link := idle })) ∧
    (∀ r, s.link.tx = .sending frame rate age → frame.kind = .response .rate → s.link.pendingRate = some r →
      r ≠ s.link.rate → exec .transmitCompletion s = .next (State.settle { s with
      link := { idle with
        rate := r, pendingRate := none, receiver := .hunt, interByte := none, rxChar := none } })) ∧
    (s.link.tx = .sending frame rate age → frame.kind = .response .rate →
      s.link.pendingRate = none ∨ s.link.pendingRate = some s.link.rate →
      exec .transmitCompletion s = .next (State.settle { s with link := { idle with pendingRate := none } })) ∧
    (s.link.tx = .aborted frame rate age → exec .abortedFrameEnd s = .next (State.settle { s with link := idle })) ∧
    (s.link.tx = .idle → exec .transmitCompletion s = .next s ∧ exec .abortedFrameEnd s = .next s)

/-- R131 and R151: with no frame waiting in the inbound buffer, the end of an event sends the oldest held response
(consuming the dropped mark, R128, R130), else the oldest unsent record within the window, else nothing. R137, second
event: where a frame waits because the holding queue is full, the response that leaves it lets the handler take the oldest
frame at once, answered from the replay memory (R141) or performed, answered and remembered. -/
def Obligations.ArbiterChoice : Prop :=
  (∀ s : State, s.link.inbound = [] →
    (s.link.tx ≠ .idle → s.settle = s) ∧
    (∀ r rest, s.link.tx = .idle → s.link.holding = r :: rest →
      s.settle = { s with
      link := { s.link with
        holding := rest
        droppedMark := false
        tx := .sending { kind := .response r.tied,
                         bytes := frameBytes ({ r with dropped := s.link.droppedMark }).body } s.link.rate 0 } }) ∧
    (∀ sent r rest, s.link.tx = .idle → s.link.holding = [] → s.reports.sentCount < s.reports.window →
      s.reports.records = sent ++ r :: rest → (∀ x ∈ sent, x.sent = true) → r.sent = false →
      s.settle = { s with
        link := { s.link with tx := .sending { kind := .report, bytes := frameBytes r.body } s.link.rate 0 }
        reports := { s.reports with records := sent ++ { r with sent := true } :: rest } }) ∧
    (s.link.tx = .idle → s.link.holding = [] → s.reportEligible = false → s.settle = s)) ∧
  (∀ (s : State) (f : Frame) (waiting : List Frame) (r r' : Response), s.link.inbound = f :: waiting →
    (s.link.tx ≠ .idle → s.link.holding = [r, r'] → s.settle = s) ∧
    (s.link.tx = .idle → s.link.holding = [r, r'] →
      let u : State := { s with
        link := { s.link with
          inbound := waiting
          holding := [r']
          droppedMark := false
          tx := .sending { kind := .response r.tied,
                           bytes := frameBytes ({ r with dropped := s.link.droppedMark }).body } s.link.rate 0 } }
      (∀ e : ReplayEntry, s.replay = some e → e.seq = f.seq → e.crc = f.crc →
        s.settle = { u with link := { u.link with holding := [r', { e.response with replayed := true }] } }) ∧
      ((∀ e : ReplayEntry, s.replay = some e → ¬(e.seq = f.seq ∧ e.crc = f.crc)) →
        let done := perform f u
        let answer : Response :=
          { seq := f.seq, type := responseType f.type, status := done.1.status, replayed := false, dropped := false
            payload := done.1.payload, tied := done.1.tied }
        s.settle = { done.2 with
          link := { done.2.link with holding := done.2.link.holding ++ [answer] }
          replay := some { seq := f.seq, crc := f.crc, response := { answer with tied := .none } } })))

/-- R134, R135, R142, R154: at the twentieth millisecond of low RXD the link is put back to HUNT and 115200 baud, its
frames, its pending rate and the replay memory are discarded, a frame in flight is aborted after its present character,
and every sent flag is cleared; counters, the dropped mark, the silence timer and every other block stay. Without such a
low run there is no break, and the row changes nothing (log entry 3, DEDUCED). The model's readings: the row takes the break
detector's part of the coming millisecond tick and is noted in `msDone` (log entry 4, DESIGN CHOICE); the character being
received is abandoned, and the aborted frame keeps its bytes up to the character on TXD (log entry 19, DEDUCED), which at
the edge between two characters is the next one (log entry 32, DESIGN CHOICE). -/
def Obligations.LinkBreakEffect : Prop :=
  ∀ s : State, s.held = false → s.Settled →
    (s.link.rxd = false → s.link.breakCount = 19 → MsTimer.breakDetector ∉ s.msDone →
      exec .linkBreak s = .next (State.settle { s with
        link := { s.link with
          breakCount := 20, receiver := .hunt, interByte := none, rxChar := none, inbound := [], holding := []
          pendingRate := none, rate := .b115200
          tx := match s.link.tx with
            | .idle => .idle
            | .sending frame rate age =>
              .aborted { frame with bytes := frame.bytes.take (age / (10 * rate.bitTime) + 1) } rate age
            | .aborted frame rate age => .aborted frame rate age }
        replay := none
        reports := { s.reports with records := s.reports.records.map fun r => { r with sent := false } }
        msDone := .breakDetector :: s.msDone })) ∧
    (s.link.rxd = true ∨ s.link.breakCount ≠ 19 → exec .linkBreak s = .next s)

/-! ## Pulses, pins and reports -/

/-- R15 and R16: the latched duty is Q in whole ticks and sixteenths, the width never exceeds P, and the sixteen widths of
sixteen dither slots sum to Q. -/
def Obligations.DutyIsSpreadOverSixteenSlots : Prop :=
  ∀ (ch : Channel) (P : Nat), ch.level ≤ 4096 →
    let d := ch.latch P
    let Q := ch.level * P / 256
    d.dutyI = Q / 16 ∧ d.dutyF = Q % 16 ∧ (∀ slot, d.width slot ≤ P) ∧
      ((List.finRange 16).map fun i => d.width (BitVec.ofFin i)).sum = Q ∧
      ((List.finRange 16).map fun i => rev4 (BitVec.ofFin i)) =
        [0, 8, 4, 12, 2, 10, 6, 14, 1, 9, 5, 13, 3, 11, 7, 15]

/-- R90: the winner of a pin is an enabled entry that names it, none of higher priority and none of the same priority with a
lower number; a pin no enabled entry names has no winner. R17, R18, R85, R91, R92 with Table 34: the value of a pin,
from the winner's source signal and its inversion. -/
def Obligations.PinWinnerAndValue : Prop :=
  (∀ (s : State) (o : Fin 20),
    let candidate (e : Fin 24) := s.routes[e].enabled = true ∧ s.routes[e].pin = o
    (∀ e, s.winner o = some e → candidate e ∧ ∀ j, candidate j →
      s.routes[j].priority < s.routes[e].priority ∨ (s.routes[j].priority = s.routes[e].priority ∧ e ≤ j)) ∧
    (s.winner o = none ↔ ∀ e, ¬candidate e)) ∧
  (∀ (s : State) (o : Fin 20),
    (s.winner o = none → s.pinValue o = s.idles[o]) ∧
    (∀ e, s.winner o = some e → s.pinValue o =
      if s.sourceSignal s.routes[e].source = s.routes[e].invert then .low else .high) ∧
    (∀ c : Fin 16,
      (s.pairs[pairOf c].enabled = true → s.sourceSignal c =
        if c.val % 2 = 0 then s.pairs[pairOf c].a else s.pairs[pairOf c].b) ∧
      (s.pairs[pairOf c].enabled = false → s.chans[c].forced = true → s.sourceSignal c = s.chans[c].safe) ∧
      (s.pairs[pairOf c].enabled = false → s.chans[c].forced = false → s.tbs[s.chans[c].tb].state = .halted →
        s.sourceSignal c = false) ∧
      (s.pairs[pairOf c].enabled = false → s.chans[c].forced = false → s.tbs[s.chans[c].tb].state = .running →
        (s.sourceSignal c = true ↔
          s.tbs[s.chans[c].tb].counter < s.chans[c].width s.tbs[s.chans[c].tb].slot))))

/-- R149 and R150: a report enters a queue of at most 30 records at the tail, and is counted into OVERFLOW above that. R161
with R157, R158 and Tables 58, 59 and 65: the body of the frame of each report kind is the record's number, the kind's code
and its payload, whose numbers of two and four bytes go least significant byte first; APPLIED and SUPERSEDED carry the code
of the request, 0x08, 0x0E or 0x0C, and its target. -/
def Obligations.ReportEntry : Prop :=
  (∀ (number : Byte) (sent : Bool),
    let body (r : Report) : List Byte := ({ number := number, report := r, sent := sent } : Record).body
    let n (v : Nat) : Byte := BitVec.ofNat 8 v
    let lsb2 (v : Nat) : List Byte := [n v, n (v / 256)]
    body (.restarted .powerOn) = [number, 0x40, 0] ∧ body (.restarted .pin) = [number, 0x40, 1] ∧
    body (.restarted .soft) = [number, 0x40, 2] ∧
    (∀ c : Fin 16, body (.programEnd c) = [number, 0x41, n c]) ∧
    (∀ (c : Fin 16) (tag : Byte) (count : BitVec 32), body (.note c tag count) =
      [number, 0x42, n c, tag] ++ lsb2 count.toNat ++ lsb2 (count.toNat / 65536)) ∧
    (∀ (seq : Byte) (b : Fin 4), body (.applied seq (.tbPeriod b)) = [number, 0x43, seq, 0x08, n b] ∧
      body (.superseded seq (.tbPeriod b)) = [number, 0x44, seq, 0x08, n b]) ∧
    (∀ (seq : Byte) (c : Fin 16), body (.applied seq (.chLevel c)) = [number, 0x43, seq, 0x0E, n c] ∧
      body (.superseded seq (.chLevel c)) = [number, 0x44, seq, 0x0E, n c] ∧
      body (.applied seq (.segReplace c)) = [number, 0x43, seq, 0x0C, n c] ∧
      body (.superseded seq (.segReplace c)) = [number, 0x44, seq, 0x0C, n c]) ∧
    (∀ (p : Fin 8) (g : BitVec 8) (members : ChSet), body (.syncRelease p g members) =
      [number, 0x45, n p, g] ++ lsb2 members.toNat) ∧
    (∀ (p : Fin 8) (g : BitVec 8) (arrived missing : ChSet), body (.syncTimeout p g arrived missing) =
      [number, 0x46, n p, g] ++ lsb2 arrived.toNat ++ lsb2 missing.toNat) ∧
    (∀ (c : Fin 16) (p : Fin 8), body (.syncSkipped c p) = [number, 0x47, n c, n p]) ∧
    (∀ (b : Fin 4) (counter period : Nat), body (.periodStretched b counter period) =
      [number, 0x48, n b] ++ lsb2 counter ++ lsb2 period) ∧
    (∀ (f : Fin 4) (chans : ChSet),
      body (.faultRaised f chans .none) = [number, 0x49, n f] ++ lsb2 chans.toNat ++ [0] ∧
      body (.faultRaised f chans .forceSafe) = [number, 0x49, n f] ++ lsb2 chans.toNat ++ [1] ∧
      body (.faultRaised f chans .stop) = [number, 0x49, n f] ++ lsb2 chans.toNat ++ [2]) ∧
    (∀ f : Fin 4, body (.faultCleared f) = [number, 0x4A, n f]) ∧
    (∀ (u : Fin 4) (count : Nat),
      body (.speedLimit u count .low) = [number, 0x4B, n u] ++ lsb2 count ++ [0] ∧
      body (.speedLimit u count .high) = [number, 0x4B, n u] ++ lsb2 count ++ [1] ∧
      body (.speedOk u count) = [number, 0x4C, n u] ++ lsb2 count) ∧
    (∀ dropped : Nat, body (.overflow dropped) = [number, 0x4D] ++ lsb2 dropped)) ∧
  ∀ (q : ReportQueue) (r : Report),
    (q.records.length ≤ 30 → q.offer r = { q with
      records := q.records ++ [{ number := q.next, report := r, sent := false }], next := q.next + 1 }) ∧
    (∀ older newest n, q.records = older ++ [newest] → 30 ≤ older.length → newest.report = .overflow n →
      q.offer r = { q with records := older ++ [{ newest with report := .overflow (min 65535 (n + 1)) }] }) ∧
    (∀ older newest, q.records = older ++ [newest] → older.length = 30 → newest.isOverflow = false →
      q.offer r = { q with
        records := q.records ++ [{ number := q.next, report := .overflow 1, sent := false }], next := q.next + 1 })

/-! ## What every step keeps -/

/-- Laws 1 and 2 (R23, R25). -/
def Obligations.StepKeepsThePool : Prop :=
  ∀ s t : State, s.PoolInv → step s = .next t → t.PoolInv

/-- R3, R20, R36, R47: counters, periods, levels, duties and segments stay in their ranges, where every arrived channel waits
with a SYNC at its head (the invariant of StepKeepsTheRendezvous). -/
def Obligations.StepKeepsTheRanges : Prop :=
  ∀ s t : State, s.RendezvousInv → s.RangesInv → step s = .next t → t.RangesInv

/-- Law 3 with the gathering timer (R37, R63). -/
def Obligations.StepKeepsTheRendezvous : Prop :=
  ∀ s t : State, s.RendezvousInv → step s = .next t → t.RendezvousInv

/-- Law 5 (R77, R81), and Law 12 for a pair: one that is forced, halted or disabled is low (R84). -/
def Obligations.StepKeepsThePairs : Prop :=
  ∀ s t : State, s.PairsInv → s.PairsHeldLow → step s = .next t → t.PairsInv ∧ t.PairsHeldLow

/-- Law 11, Law 12 and R105: locked channels, covered channels forced, FAULTED exactly under a latched STOP source. -/
def Obligations.StepKeepsTheCoverage : Prop :=
  ∀ s t : State, s.CoverageInv → step s = .next t → t.CoverageInv

/-- R98, R99, R101: an active source is latched, and SPEED is active exactly while a unit asserts it. -/
def Obligations.StepKeepsTheFaultSources : Prop :=
  ∀ s t : State, s.FaultInv → step s = .next t → t.FaultInv

/-- Laws 7 and 8 (R148, R150, R151). -/
def Obligations.StepKeepsTheReportQueue : Prop :=
  ∀ s t : State, s.reports.Inv → step s = .next t → t.reports.Inv

/-- R123, R125, R127 to R129, R133, R134: the link's fields stay in their ranges. -/
def Obligations.StepKeepsTheLink : Prop :=
  ∀ s t : State, s.link.Inv → step s = .next t → t.link.Inv

/-- R131, R137: no step leaves an IDLE transmitter with an eligible frame, or a frame waiting while there is room. -/
def Obligations.StepLeavesNothingEligible : Prop :=
  ∀ s t : State, s.Settled → step s = .next t → t.Settled

/-- The reset state meets the invariants, and the state after each reset command is settled. -/
def Obligations.ResetMeetsTheInvariants : Prop :=
  State.reset.PoolInv ∧ State.reset.RangesInv ∧ State.reset.RendezvousInv ∧ State.reset.PairsInv ∧
    State.reset.PairsHeldLow ∧ State.reset.CoverageInv ∧ State.reset.FaultInv ∧ State.reset.reports.Inv ∧
    State.reset.link.Inv ∧
    ∀ s t : State, exec .powerOnReset s = .next t ∨ exec .pinReset s = .next t ∨ exec .rstNAssert s = .next t →
      t.Settled

/-! ## The other stages of a boundary -/

/-- Stages 1, 2, 5 and 6 of a channel's handling of a boundary (stages 3 and 4 are ProgramAdvance). R40: the level takes the
pending value, in every state, and a notified one reports APPLIED. R41 with R33 and R71: a WAITING channel leaves its
point, whose timer stops when no arrival is left; the old queue is freed; the pending list is the queue, its head not
started; WAITING becomes RUNNING and every other state stays; a notified list reports APPLIED. R52 with R15: the duty is
latched from the level and the new P; a forced flag that no latched FORCE_SAFE or STOP source covers (R103) is lifted. -/
def Obligations.PendingLevelListDutyAndForcedFlag : Prop :=
  ∀ (s : State) (c : Fin 16),
    let ch := s.chans[c]
    let covered := ∃ f : Fin 4, s.faults[f].latched = true ∧ s.faults[f].action ≠ .none ∧
      s.faults[f].chans.has (if s.pairs[pairOf c].enabled then evenOf (pairOf c) else c) = true
    (ch.pendingLevel = none → s.stageLevel c = s) ∧
    (∀ p, ch.pendingLevel = some p →
      let t : State := { s with chans := s.chans.set c { ch with level := p.level, pendingLevel := none } }
      s.stageLevel c = match p.notify with
        | some seq => t.offer (.applied seq (.chLevel c))
        | none => t) ∧
    (ch.replacement = none → s.stageReplacement c = s) ∧
    (∀ r, ch.replacement = some r →
      let t : State := { s with
        chans := s.chans.set c { ch with
          queue := r.segments, run := .clear, replacement := none
          state := if ch.state = .waiting then .running else ch.state }
        free := s.free + ch.queue.length
        points := Vector.ofFn fun p =>
          let left := s.points[p].arrived.drop c
          if ch.waitsAt p then
            { s.points[p] with arrived := left, timer := if left = 0 then none else s.points[p].timer }
          else s.points[p] }
      s.stageReplacement c = match r.notify with
        | some seq => t.offer (.applied seq (.segReplace c))
        | none => t) ∧
    (let Q := ch.level * s.tbs[ch.tb].period / 256
     s.stageLatch c = { s with chans := s.chans.set c { ch with dutyI := Q / 16, dutyF := Q % 16 } }) ∧
    (covered ∨ ch.forced = false → s.stageUnforce c = s) ∧
    (¬covered → ch.forced = true → s.stageUnforce c = { s with chans := s.chans.set c { ch with forced := false } })
end

