-- ==== Sys2Proof/Laws/State.lean ====
section
/-! SUPPORT. What each bank update does to each field of State, one rewriting lemma a field, so that no proof unfolds a record update. The bank that changes is read one record at a time, by the `_get` lemmas. -/

namespace Sys2Proof.Machine

/-! ## modTb -/

section modTb

variable (t : Fin 4) (f : Timebase → Timebase) (s : State)

theorem State.modTb_tbs : (s.modTb t f).tbs = s.tbs.set t (f s.tbs[t]) := rfl
@[simp] theorem State.modTb_chans : (s.modTb t f).chans = s.chans := rfl
@[simp] theorem State.modTb_free : (s.modTb t f).free = s.free := rfl
@[simp] theorem State.modTb_points : (s.modTb t f).points = s.points := rfl
@[simp] theorem State.modTb_pairs : (s.modTb t f).pairs = s.pairs := rfl
@[simp] theorem State.modTb_routes : (s.modTb t f).routes = s.routes := rfl
@[simp] theorem State.modTb_idles : (s.modTb t f).idles = s.idles := rfl
@[simp] theorem State.modTb_faults : (s.modTb t f).faults = s.faults := rfl
@[simp] theorem State.modTb_units : (s.modTb t f).units = s.units := rfl
@[simp] theorem State.modTb_link : (s.modTb t f).link = s.link := rfl
@[simp] theorem State.modTb_replay : (s.modTb t f).replay = s.replay := rfl
@[simp] theorem State.modTb_reports : (s.modTb t f).reports = s.reports := rfl
@[simp] theorem State.modTb_msPhase : (s.modTb t f).msPhase = s.msPhase := rfl
@[simp] theorem State.modTb_samplePhase : (s.modTb t f).samplePhase = s.samplePhase := rfl
@[simp] theorem State.modTb_inputs : (s.modTb t f).inputs = s.inputs := rfl
@[simp] theorem State.modTb_held : (s.modTb t f).held = s.held := rfl
@[simp] theorem State.modTb_msDone : (s.modTb t f).msDone = s.msDone := rfl
@[simp] theorem State.modTb_choice : (s.modTb t f).choice = s.choice := rfl
@[simp] theorem State.modTb_pending : (s.modTb t f).pending = s.pending := rfl

end modTb

/-! ## modChan -/

section modChan

variable (c : Fin 16) (f : Channel → Channel) (s : State)

@[simp] theorem State.modChan_tbs : (s.modChan c f).tbs = s.tbs := rfl
theorem State.modChan_chans : (s.modChan c f).chans = s.chans.set c (f s.chans[c]) := rfl
@[simp] theorem State.modChan_free : (s.modChan c f).free = s.free := rfl
@[simp] theorem State.modChan_points : (s.modChan c f).points = s.points := rfl
@[simp] theorem State.modChan_pairs : (s.modChan c f).pairs = s.pairs := rfl
@[simp] theorem State.modChan_routes : (s.modChan c f).routes = s.routes := rfl
@[simp] theorem State.modChan_idles : (s.modChan c f).idles = s.idles := rfl
@[simp] theorem State.modChan_faults : (s.modChan c f).faults = s.faults := rfl
@[simp] theorem State.modChan_units : (s.modChan c f).units = s.units := rfl
@[simp] theorem State.modChan_link : (s.modChan c f).link = s.link := rfl
@[simp] theorem State.modChan_replay : (s.modChan c f).replay = s.replay := rfl
@[simp] theorem State.modChan_reports : (s.modChan c f).reports = s.reports := rfl
@[simp] theorem State.modChan_msPhase : (s.modChan c f).msPhase = s.msPhase := rfl
@[simp] theorem State.modChan_samplePhase : (s.modChan c f).samplePhase = s.samplePhase := rfl
@[simp] theorem State.modChan_inputs : (s.modChan c f).inputs = s.inputs := rfl
@[simp] theorem State.modChan_held : (s.modChan c f).held = s.held := rfl
@[simp] theorem State.modChan_msDone : (s.modChan c f).msDone = s.msDone := rfl
@[simp] theorem State.modChan_choice : (s.modChan c f).choice = s.choice := rfl
@[simp] theorem State.modChan_pending : (s.modChan c f).pending = s.pending := rfl

end modChan

/-! ## modPoint -/

section modPoint

variable (p : Fin 8) (f : Point → Point) (s : State)

@[simp] theorem State.modPoint_tbs : (s.modPoint p f).tbs = s.tbs := rfl
@[simp] theorem State.modPoint_chans : (s.modPoint p f).chans = s.chans := rfl
@[simp] theorem State.modPoint_free : (s.modPoint p f).free = s.free := rfl
theorem State.modPoint_points : (s.modPoint p f).points = s.points.set p (f s.points[p]) := rfl
@[simp] theorem State.modPoint_pairs : (s.modPoint p f).pairs = s.pairs := rfl
@[simp] theorem State.modPoint_routes : (s.modPoint p f).routes = s.routes := rfl
@[simp] theorem State.modPoint_idles : (s.modPoint p f).idles = s.idles := rfl
@[simp] theorem State.modPoint_faults : (s.modPoint p f).faults = s.faults := rfl
@[simp] theorem State.modPoint_units : (s.modPoint p f).units = s.units := rfl
@[simp] theorem State.modPoint_link : (s.modPoint p f).link = s.link := rfl
@[simp] theorem State.modPoint_replay : (s.modPoint p f).replay = s.replay := rfl
@[simp] theorem State.modPoint_reports : (s.modPoint p f).reports = s.reports := rfl
@[simp] theorem State.modPoint_msPhase : (s.modPoint p f).msPhase = s.msPhase := rfl
@[simp] theorem State.modPoint_samplePhase : (s.modPoint p f).samplePhase = s.samplePhase := rfl
@[simp] theorem State.modPoint_inputs : (s.modPoint p f).inputs = s.inputs := rfl
@[simp] theorem State.modPoint_held : (s.modPoint p f).held = s.held := rfl
@[simp] theorem State.modPoint_msDone : (s.modPoint p f).msDone = s.msDone := rfl
@[simp] theorem State.modPoint_choice : (s.modPoint p f).choice = s.choice := rfl
@[simp] theorem State.modPoint_pending : (s.modPoint p f).pending = s.pending := rfl

end modPoint

/-! ## modPair -/

section modPair

variable (k : Fin 8) (f : Pair → Pair) (s : State)

@[simp] theorem State.modPair_tbs : (s.modPair k f).tbs = s.tbs := rfl
@[simp] theorem State.modPair_chans : (s.modPair k f).chans = s.chans := rfl
@[simp] theorem State.modPair_free : (s.modPair k f).free = s.free := rfl
@[simp] theorem State.modPair_points : (s.modPair k f).points = s.points := rfl
theorem State.modPair_pairs : (s.modPair k f).pairs = s.pairs.set k (f s.pairs[k]) := rfl
@[simp] theorem State.modPair_routes : (s.modPair k f).routes = s.routes := rfl
@[simp] theorem State.modPair_idles : (s.modPair k f).idles = s.idles := rfl
@[simp] theorem State.modPair_faults : (s.modPair k f).faults = s.faults := rfl
@[simp] theorem State.modPair_units : (s.modPair k f).units = s.units := rfl
@[simp] theorem State.modPair_link : (s.modPair k f).link = s.link := rfl
@[simp] theorem State.modPair_replay : (s.modPair k f).replay = s.replay := rfl
@[simp] theorem State.modPair_reports : (s.modPair k f).reports = s.reports := rfl
@[simp] theorem State.modPair_msPhase : (s.modPair k f).msPhase = s.msPhase := rfl
@[simp] theorem State.modPair_samplePhase : (s.modPair k f).samplePhase = s.samplePhase := rfl
@[simp] theorem State.modPair_inputs : (s.modPair k f).inputs = s.inputs := rfl
@[simp] theorem State.modPair_held : (s.modPair k f).held = s.held := rfl
@[simp] theorem State.modPair_msDone : (s.modPair k f).msDone = s.msDone := rfl
@[simp] theorem State.modPair_choice : (s.modPair k f).choice = s.choice := rfl
@[simp] theorem State.modPair_pending : (s.modPair k f).pending = s.pending := rfl

end modPair

/-! ## modFault -/

section modFault

variable (i : Fin 4) (f : FaultSource → FaultSource) (s : State)

@[simp] theorem State.modFault_tbs : (s.modFault i f).tbs = s.tbs := rfl
@[simp] theorem State.modFault_chans : (s.modFault i f).chans = s.chans := rfl
@[simp] theorem State.modFault_free : (s.modFault i f).free = s.free := rfl
@[simp] theorem State.modFault_points : (s.modFault i f).points = s.points := rfl
@[simp] theorem State.modFault_pairs : (s.modFault i f).pairs = s.pairs := rfl
@[simp] theorem State.modFault_routes : (s.modFault i f).routes = s.routes := rfl
@[simp] theorem State.modFault_idles : (s.modFault i f).idles = s.idles := rfl
theorem State.modFault_faults : (s.modFault i f).faults = s.faults.set i (f s.faults[i]) := rfl
@[simp] theorem State.modFault_units : (s.modFault i f).units = s.units := rfl
@[simp] theorem State.modFault_link : (s.modFault i f).link = s.link := rfl
@[simp] theorem State.modFault_replay : (s.modFault i f).replay = s.replay := rfl
@[simp] theorem State.modFault_reports : (s.modFault i f).reports = s.reports := rfl
@[simp] theorem State.modFault_msPhase : (s.modFault i f).msPhase = s.msPhase := rfl
@[simp] theorem State.modFault_samplePhase : (s.modFault i f).samplePhase = s.samplePhase := rfl
@[simp] theorem State.modFault_inputs : (s.modFault i f).inputs = s.inputs := rfl
@[simp] theorem State.modFault_held : (s.modFault i f).held = s.held := rfl
@[simp] theorem State.modFault_msDone : (s.modFault i f).msDone = s.msDone := rfl
@[simp] theorem State.modFault_choice : (s.modFault i f).choice = s.choice := rfl
@[simp] theorem State.modFault_pending : (s.modFault i f).pending = s.pending := rfl

end modFault

/-! ## modUnit -/

section modUnit

variable (u : Fin 4) (f : SpeedUnit → SpeedUnit) (s : State)

@[simp] theorem State.modUnit_tbs : (s.modUnit u f).tbs = s.tbs := rfl
@[simp] theorem State.modUnit_chans : (s.modUnit u f).chans = s.chans := rfl
@[simp] theorem State.modUnit_free : (s.modUnit u f).free = s.free := rfl
@[simp] theorem State.modUnit_points : (s.modUnit u f).points = s.points := rfl
@[simp] theorem State.modUnit_pairs : (s.modUnit u f).pairs = s.pairs := rfl
@[simp] theorem State.modUnit_routes : (s.modUnit u f).routes = s.routes := rfl
@[simp] theorem State.modUnit_idles : (s.modUnit u f).idles = s.idles := rfl
@[simp] theorem State.modUnit_faults : (s.modUnit u f).faults = s.faults := rfl
theorem State.modUnit_units : (s.modUnit u f).units = s.units.set u (f s.units[u]) := rfl
@[simp] theorem State.modUnit_link : (s.modUnit u f).link = s.link := rfl
@[simp] theorem State.modUnit_replay : (s.modUnit u f).replay = s.replay := rfl
@[simp] theorem State.modUnit_reports : (s.modUnit u f).reports = s.reports := rfl
@[simp] theorem State.modUnit_msPhase : (s.modUnit u f).msPhase = s.msPhase := rfl
@[simp] theorem State.modUnit_samplePhase : (s.modUnit u f).samplePhase = s.samplePhase := rfl
@[simp] theorem State.modUnit_inputs : (s.modUnit u f).inputs = s.inputs := rfl
@[simp] theorem State.modUnit_held : (s.modUnit u f).held = s.held := rfl
@[simp] theorem State.modUnit_msDone : (s.modUnit u f).msDone = s.msDone := rfl
@[simp] theorem State.modUnit_choice : (s.modUnit u f).choice = s.choice := rfl
@[simp] theorem State.modUnit_pending : (s.modUnit u f).pending = s.pending := rfl

end modUnit

/-! ## modLink -/

section modLink

variable (f : Link → Link) (s : State)

@[simp] theorem State.modLink_tbs : (s.modLink f).tbs = s.tbs := rfl
@[simp] theorem State.modLink_chans : (s.modLink f).chans = s.chans := rfl
@[simp] theorem State.modLink_free : (s.modLink f).free = s.free := rfl
@[simp] theorem State.modLink_points : (s.modLink f).points = s.points := rfl
@[simp] theorem State.modLink_pairs : (s.modLink f).pairs = s.pairs := rfl
@[simp] theorem State.modLink_routes : (s.modLink f).routes = s.routes := rfl
@[simp] theorem State.modLink_idles : (s.modLink f).idles = s.idles := rfl
@[simp] theorem State.modLink_faults : (s.modLink f).faults = s.faults := rfl
@[simp] theorem State.modLink_units : (s.modLink f).units = s.units := rfl
@[simp] theorem State.modLink_link : (s.modLink f).link = f s.link := rfl
@[simp] theorem State.modLink_replay : (s.modLink f).replay = s.replay := rfl
@[simp] theorem State.modLink_reports : (s.modLink f).reports = s.reports := rfl
@[simp] theorem State.modLink_msPhase : (s.modLink f).msPhase = s.msPhase := rfl
@[simp] theorem State.modLink_samplePhase : (s.modLink f).samplePhase = s.samplePhase := rfl
@[simp] theorem State.modLink_inputs : (s.modLink f).inputs = s.inputs := rfl
@[simp] theorem State.modLink_held : (s.modLink f).held = s.held := rfl
@[simp] theorem State.modLink_msDone : (s.modLink f).msDone = s.msDone := rfl
@[simp] theorem State.modLink_choice : (s.modLink f).choice = s.choice := rfl
@[simp] theorem State.modLink_pending : (s.modLink f).pending = s.pending := rfl

end modLink

/-! ## mapTbs -/

section mapTbs

variable (f : Fin 4 → Timebase → Timebase) (s : State)

theorem State.mapTbs_tbs : (s.mapTbs f).tbs = Vector.ofFn fun t => f t s.tbs[t] := rfl
@[simp] theorem State.mapTbs_chans : (s.mapTbs f).chans = s.chans := rfl
@[simp] theorem State.mapTbs_free : (s.mapTbs f).free = s.free := rfl
@[simp] theorem State.mapTbs_points : (s.mapTbs f).points = s.points := rfl
@[simp] theorem State.mapTbs_pairs : (s.mapTbs f).pairs = s.pairs := rfl
@[simp] theorem State.mapTbs_routes : (s.mapTbs f).routes = s.routes := rfl
@[simp] theorem State.mapTbs_idles : (s.mapTbs f).idles = s.idles := rfl
@[simp] theorem State.mapTbs_faults : (s.mapTbs f).faults = s.faults := rfl
@[simp] theorem State.mapTbs_units : (s.mapTbs f).units = s.units := rfl
@[simp] theorem State.mapTbs_link : (s.mapTbs f).link = s.link := rfl
@[simp] theorem State.mapTbs_replay : (s.mapTbs f).replay = s.replay := rfl
@[simp] theorem State.mapTbs_reports : (s.mapTbs f).reports = s.reports := rfl
@[simp] theorem State.mapTbs_msPhase : (s.mapTbs f).msPhase = s.msPhase := rfl
@[simp] theorem State.mapTbs_samplePhase : (s.mapTbs f).samplePhase = s.samplePhase := rfl
@[simp] theorem State.mapTbs_inputs : (s.mapTbs f).inputs = s.inputs := rfl
@[simp] theorem State.mapTbs_held : (s.mapTbs f).held = s.held := rfl
@[simp] theorem State.mapTbs_msDone : (s.mapTbs f).msDone = s.msDone := rfl
@[simp] theorem State.mapTbs_choice : (s.mapTbs f).choice = s.choice := rfl
@[simp] theorem State.mapTbs_pending : (s.mapTbs f).pending = s.pending := rfl

end mapTbs

/-! ## mapChans -/

section mapChans

variable (f : Fin 16 → Channel → Channel) (s : State)

@[simp] theorem State.mapChans_tbs : (s.mapChans f).tbs = s.tbs := rfl
theorem State.mapChans_chans : (s.mapChans f).chans = Vector.ofFn fun c => f c s.chans[c] := rfl
@[simp] theorem State.mapChans_free : (s.mapChans f).free = s.free := rfl
@[simp] theorem State.mapChans_points : (s.mapChans f).points = s.points := rfl
@[simp] theorem State.mapChans_pairs : (s.mapChans f).pairs = s.pairs := rfl
@[simp] theorem State.mapChans_routes : (s.mapChans f).routes = s.routes := rfl
@[simp] theorem State.mapChans_idles : (s.mapChans f).idles = s.idles := rfl
@[simp] theorem State.mapChans_faults : (s.mapChans f).faults = s.faults := rfl
@[simp] theorem State.mapChans_units : (s.mapChans f).units = s.units := rfl
@[simp] theorem State.mapChans_link : (s.mapChans f).link = s.link := rfl
@[simp] theorem State.mapChans_replay : (s.mapChans f).replay = s.replay := rfl
@[simp] theorem State.mapChans_reports : (s.mapChans f).reports = s.reports := rfl
@[simp] theorem State.mapChans_msPhase : (s.mapChans f).msPhase = s.msPhase := rfl
@[simp] theorem State.mapChans_samplePhase : (s.mapChans f).samplePhase = s.samplePhase := rfl
@[simp] theorem State.mapChans_inputs : (s.mapChans f).inputs = s.inputs := rfl
@[simp] theorem State.mapChans_held : (s.mapChans f).held = s.held := rfl
@[simp] theorem State.mapChans_msDone : (s.mapChans f).msDone = s.msDone := rfl
@[simp] theorem State.mapChans_choice : (s.mapChans f).choice = s.choice := rfl
@[simp] theorem State.mapChans_pending : (s.mapChans f).pending = s.pending := rfl

end mapChans

/-! ## mapPoints -/

section mapPoints

variable (f : Fin 8 → Point → Point) (s : State)

@[simp] theorem State.mapPoints_tbs : (s.mapPoints f).tbs = s.tbs := rfl
@[simp] theorem State.mapPoints_chans : (s.mapPoints f).chans = s.chans := rfl
@[simp] theorem State.mapPoints_free : (s.mapPoints f).free = s.free := rfl
theorem State.mapPoints_points : (s.mapPoints f).points = Vector.ofFn fun p => f p s.points[p] := rfl
@[simp] theorem State.mapPoints_pairs : (s.mapPoints f).pairs = s.pairs := rfl
@[simp] theorem State.mapPoints_routes : (s.mapPoints f).routes = s.routes := rfl
@[simp] theorem State.mapPoints_idles : (s.mapPoints f).idles = s.idles := rfl
@[simp] theorem State.mapPoints_faults : (s.mapPoints f).faults = s.faults := rfl
@[simp] theorem State.mapPoints_units : (s.mapPoints f).units = s.units := rfl
@[simp] theorem State.mapPoints_link : (s.mapPoints f).link = s.link := rfl
@[simp] theorem State.mapPoints_replay : (s.mapPoints f).replay = s.replay := rfl
@[simp] theorem State.mapPoints_reports : (s.mapPoints f).reports = s.reports := rfl
@[simp] theorem State.mapPoints_msPhase : (s.mapPoints f).msPhase = s.msPhase := rfl
@[simp] theorem State.mapPoints_samplePhase : (s.mapPoints f).samplePhase = s.samplePhase := rfl
@[simp] theorem State.mapPoints_inputs : (s.mapPoints f).inputs = s.inputs := rfl
@[simp] theorem State.mapPoints_held : (s.mapPoints f).held = s.held := rfl
@[simp] theorem State.mapPoints_msDone : (s.mapPoints f).msDone = s.msDone := rfl
@[simp] theorem State.mapPoints_choice : (s.mapPoints f).choice = s.choice := rfl
@[simp] theorem State.mapPoints_pending : (s.mapPoints f).pending = s.pending := rfl

end mapPoints

/-! ## mapPairs -/

section mapPairs

variable (f : Fin 8 → Pair → Pair) (s : State)

@[simp] theorem State.mapPairs_tbs : (s.mapPairs f).tbs = s.tbs := rfl
@[simp] theorem State.mapPairs_chans : (s.mapPairs f).chans = s.chans := rfl
@[simp] theorem State.mapPairs_free : (s.mapPairs f).free = s.free := rfl
@[simp] theorem State.mapPairs_points : (s.mapPairs f).points = s.points := rfl
theorem State.mapPairs_pairs : (s.mapPairs f).pairs = Vector.ofFn fun k => f k s.pairs[k] := rfl
@[simp] theorem State.mapPairs_routes : (s.mapPairs f).routes = s.routes := rfl
@[simp] theorem State.mapPairs_idles : (s.mapPairs f).idles = s.idles := rfl
@[simp] theorem State.mapPairs_faults : (s.mapPairs f).faults = s.faults := rfl
@[simp] theorem State.mapPairs_units : (s.mapPairs f).units = s.units := rfl
@[simp] theorem State.mapPairs_link : (s.mapPairs f).link = s.link := rfl
@[simp] theorem State.mapPairs_replay : (s.mapPairs f).replay = s.replay := rfl
@[simp] theorem State.mapPairs_reports : (s.mapPairs f).reports = s.reports := rfl
@[simp] theorem State.mapPairs_msPhase : (s.mapPairs f).msPhase = s.msPhase := rfl
@[simp] theorem State.mapPairs_samplePhase : (s.mapPairs f).samplePhase = s.samplePhase := rfl
@[simp] theorem State.mapPairs_inputs : (s.mapPairs f).inputs = s.inputs := rfl
@[simp] theorem State.mapPairs_held : (s.mapPairs f).held = s.held := rfl
@[simp] theorem State.mapPairs_msDone : (s.mapPairs f).msDone = s.msDone := rfl
@[simp] theorem State.mapPairs_choice : (s.mapPairs f).choice = s.choice := rfl
@[simp] theorem State.mapPairs_pending : (s.mapPairs f).pending = s.pending := rfl

end mapPairs

/-! ## mapUnits -/

section mapUnits

variable (f : Fin 4 → SpeedUnit → SpeedUnit) (s : State)

@[simp] theorem State.mapUnits_tbs : (s.mapUnits f).tbs = s.tbs := rfl
@[simp] theorem State.mapUnits_chans : (s.mapUnits f).chans = s.chans := rfl
@[simp] theorem State.mapUnits_free : (s.mapUnits f).free = s.free := rfl
@[simp] theorem State.mapUnits_points : (s.mapUnits f).points = s.points := rfl
@[simp] theorem State.mapUnits_pairs : (s.mapUnits f).pairs = s.pairs := rfl
@[simp] theorem State.mapUnits_routes : (s.mapUnits f).routes = s.routes := rfl
@[simp] theorem State.mapUnits_idles : (s.mapUnits f).idles = s.idles := rfl
@[simp] theorem State.mapUnits_faults : (s.mapUnits f).faults = s.faults := rfl
theorem State.mapUnits_units : (s.mapUnits f).units = Vector.ofFn fun u => f u s.units[u] := rfl
@[simp] theorem State.mapUnits_link : (s.mapUnits f).link = s.link := rfl
@[simp] theorem State.mapUnits_replay : (s.mapUnits f).replay = s.replay := rfl
@[simp] theorem State.mapUnits_reports : (s.mapUnits f).reports = s.reports := rfl
@[simp] theorem State.mapUnits_msPhase : (s.mapUnits f).msPhase = s.msPhase := rfl
@[simp] theorem State.mapUnits_samplePhase : (s.mapUnits f).samplePhase = s.samplePhase := rfl
@[simp] theorem State.mapUnits_inputs : (s.mapUnits f).inputs = s.inputs := rfl
@[simp] theorem State.mapUnits_held : (s.mapUnits f).held = s.held := rfl
@[simp] theorem State.mapUnits_msDone : (s.mapUnits f).msDone = s.msDone := rfl
@[simp] theorem State.mapUnits_choice : (s.mapUnits f).choice = s.choice := rfl
@[simp] theorem State.mapUnits_pending : (s.mapUnits f).pending = s.pending := rfl

end mapUnits

/-! ## offer -/

section offer

variable (r : Report) (s : State)

@[simp] theorem State.offer_tbs : (s.offer r).tbs = s.tbs := rfl
@[simp] theorem State.offer_chans : (s.offer r).chans = s.chans := rfl
@[simp] theorem State.offer_free : (s.offer r).free = s.free := rfl
@[simp] theorem State.offer_points : (s.offer r).points = s.points := rfl
@[simp] theorem State.offer_pairs : (s.offer r).pairs = s.pairs := rfl
@[simp] theorem State.offer_routes : (s.offer r).routes = s.routes := rfl
@[simp] theorem State.offer_idles : (s.offer r).idles = s.idles := rfl
@[simp] theorem State.offer_faults : (s.offer r).faults = s.faults := rfl
@[simp] theorem State.offer_units : (s.offer r).units = s.units := rfl
@[simp] theorem State.offer_link : (s.offer r).link = s.link := rfl
@[simp] theorem State.offer_replay : (s.offer r).replay = s.replay := rfl
@[simp] theorem State.offer_reports : (s.offer r).reports = s.reports.offer r := rfl
@[simp] theorem State.offer_msPhase : (s.offer r).msPhase = s.msPhase := rfl
@[simp] theorem State.offer_samplePhase : (s.offer r).samplePhase = s.samplePhase := rfl
@[simp] theorem State.offer_inputs : (s.offer r).inputs = s.inputs := rfl
@[simp] theorem State.offer_held : (s.offer r).held = s.held := rfl
@[simp] theorem State.offer_msDone : (s.offer r).msDone = s.msDone := rfl
@[simp] theorem State.offer_choice : (s.offer r).choice = s.choice := rfl
@[simp] theorem State.offer_pending : (s.offer r).pending = s.pending := rfl

end offer

/-! ## offerIf -/

section offerIf

variable (n : Option Byte) (r : Byte → Report) (s : State)

@[simp] theorem State.offerIf_tbs : (s.offerIf n r).tbs = s.tbs := by cases n <;> rfl
@[simp] theorem State.offerIf_chans : (s.offerIf n r).chans = s.chans := by cases n <;> rfl
@[simp] theorem State.offerIf_free : (s.offerIf n r).free = s.free := by cases n <;> rfl
@[simp] theorem State.offerIf_points : (s.offerIf n r).points = s.points := by cases n <;> rfl
@[simp] theorem State.offerIf_pairs : (s.offerIf n r).pairs = s.pairs := by cases n <;> rfl
@[simp] theorem State.offerIf_routes : (s.offerIf n r).routes = s.routes := by cases n <;> rfl
@[simp] theorem State.offerIf_idles : (s.offerIf n r).idles = s.idles := by cases n <;> rfl
@[simp] theorem State.offerIf_faults : (s.offerIf n r).faults = s.faults := by cases n <;> rfl
@[simp] theorem State.offerIf_units : (s.offerIf n r).units = s.units := by cases n <;> rfl
@[simp] theorem State.offerIf_link : (s.offerIf n r).link = s.link := by cases n <;> rfl
@[simp] theorem State.offerIf_replay : (s.offerIf n r).replay = s.replay := by cases n <;> rfl
@[simp] theorem State.offerIf_msPhase : (s.offerIf n r).msPhase = s.msPhase := by cases n <;> rfl
@[simp] theorem State.offerIf_samplePhase : (s.offerIf n r).samplePhase = s.samplePhase := by cases n <;> rfl
@[simp] theorem State.offerIf_inputs : (s.offerIf n r).inputs = s.inputs := by cases n <;> rfl
@[simp] theorem State.offerIf_held : (s.offerIf n r).held = s.held := by cases n <;> rfl
@[simp] theorem State.offerIf_msDone : (s.offerIf n r).msDone = s.msDone := by cases n <;> rfl
@[simp] theorem State.offerIf_choice : (s.offerIf n r).choice = s.choice := by cases n <;> rfl
@[simp] theorem State.offerIf_pending : (s.offerIf n r).pending = s.pending := by cases n <;> rfl

end offerIf

/-! ## One record of a bank after its update -/

@[simp] theorem State.modTb_get (t j : Fin 4) (f : Timebase → Timebase) (s : State) :
    (s.modTb t f).tbs[j] = if j = t then f s.tbs[t] else s.tbs[j] := by
  simp only [State.modTb_tbs, Fin.getElem_fin, Vector.getElem_set]
  by_cases h : j = t
  · subst h; simp
  · have : ¬ t.val = j.val := fun e => h (Fin.ext e.symm)
    simp [h, this]

@[simp] theorem State.modChan_get (c j : Fin 16) (f : Channel → Channel) (s : State) :
    (s.modChan c f).chans[j] = if j = c then f s.chans[c] else s.chans[j] := by
  simp only [State.modChan_chans, Fin.getElem_fin, Vector.getElem_set]
  by_cases h : j = c
  · subst h; simp
  · have : ¬ c.val = j.val := fun e => h (Fin.ext e.symm)
    simp [h, this]

@[simp] theorem State.modPoint_get (p j : Fin 8) (f : Point → Point) (s : State) :
    (s.modPoint p f).points[j] = if j = p then f s.points[p] else s.points[j] := by
  simp only [State.modPoint_points, Fin.getElem_fin, Vector.getElem_set]
  by_cases h : j = p
  · subst h; simp
  · have : ¬ p.val = j.val := fun e => h (Fin.ext e.symm)
    simp [h, this]

@[simp] theorem State.modPair_get (k j : Fin 8) (f : Pair → Pair) (s : State) :
    (s.modPair k f).pairs[j] = if j = k then f s.pairs[k] else s.pairs[j] := by
  simp only [State.modPair_pairs, Fin.getElem_fin, Vector.getElem_set]
  by_cases h : j = k
  · subst h; simp
  · have : ¬ k.val = j.val := fun e => h (Fin.ext e.symm)
    simp [h, this]

@[simp] theorem State.modFault_get (i j : Fin 4) (f : FaultSource → FaultSource) (s : State) :
    (s.modFault i f).faults[j] = if j = i then f s.faults[i] else s.faults[j] := by
  simp only [State.modFault_faults, Fin.getElem_fin, Vector.getElem_set]
  by_cases h : j = i
  · subst h; simp
  · have : ¬ i.val = j.val := fun e => h (Fin.ext e.symm)
    simp [h, this]

@[simp] theorem State.modUnit_get (u j : Fin 4) (f : SpeedUnit → SpeedUnit) (s : State) :
    (s.modUnit u f).units[j] = if j = u then f s.units[u] else s.units[j] := by
  simp only [State.modUnit_units, Fin.getElem_fin, Vector.getElem_set]
  by_cases h : j = u
  · subst h; simp
  · have : ¬ u.val = j.val := fun e => h (Fin.ext e.symm)
    simp [h, this]

@[simp] theorem State.mapTbs_get (j : Fin 4) (f : Fin 4 → Timebase → Timebase) (s : State) :
    (s.mapTbs f).tbs[j] = f j s.tbs[j] := by
  simp [State.mapTbs_tbs]

@[simp] theorem State.mapChans_get (j : Fin 16) (f : Fin 16 → Channel → Channel) (s : State) :
    (s.mapChans f).chans[j] = f j s.chans[j] := by
  simp [State.mapChans_chans]

@[simp] theorem State.mapPoints_get (j : Fin 8) (f : Fin 8 → Point → Point) (s : State) :
    (s.mapPoints f).points[j] = f j s.points[j] := by
  simp [State.mapPoints_points]

@[simp] theorem State.mapPairs_get (j : Fin 8) (f : Fin 8 → Pair → Pair) (s : State) :
    (s.mapPairs f).pairs[j] = f j s.pairs[j] := by
  simp [State.mapPairs_pairs]

@[simp] theorem State.mapUnits_get (j : Fin 4) (f : Fin 4 → SpeedUnit → SpeedUnit) (s : State) :
    (s.mapUnits f).units[j] = f j s.units[j] := by
  simp [State.mapUnits_units]

end Sys2Proof.Machine
end

