-- ==== Sys2Proof/Laws/Order.lean ====
section
/-! SUPPORT. Sequences of parts and free orders: what a free order is, what parts taken in any order keep. -/

namespace Sys2Proof.Machine

theorem forEach_nil {α : Type} (f : α → State → State) (s : State) : forEach [] f s = s := rfl

theorem forEach_cons {α : Type} (x : α) (xs : List α) (f : α → State → State) (s : State) :
    forEach (x :: xs) f s = forEach xs f (f x s) := rfl

/-- What every part keeps, the sequence keeps. -/
theorem forEach_induction {α : Type} (P : State → Prop) (xs : List α) (f : α → State → State)
    (step : ∀ x ∈ xs, ∀ s, P s → P (f x s)) (s : State) (h : P s) : P (forEach xs f s) := by
  induction xs generalizing s with
  | nil => exact h
  | cons x xs ih =>
    exact ih (fun y hy => step y (List.mem_cons_of_mem x hy)) _ (step x List.mem_cons_self s h)

theorem orderFrom_perm {α : Type} (n code : Nat) (xs : List α) : (orderFrom n code xs).Perm xs := by
  induction n generalizing code xs with
  | zero => exact List.Perm.refl _
  | succ n ih =>
    unfold orderFrom
    cases h : xs[code % xs.length]? with
    | none => exact List.Perm.refl _
    | some x =>
      obtain ⟨hlt, rfl⟩ := List.getElem?_eq_some_iff.mp h
      exact ((ih _ _).cons _).trans (List.getElem_cons_eraseIdx_perm hlt)

/-- A free order of parts is an order of these parts. -/
theorem State.inAnyOrder_perm {α : Type} (xs : List α) (s : State) : (s.inAnyOrder xs).1.Perm xs := by
  unfold State.inAnyOrder
  split
  · exact List.Perm.refl _
  · exact List.Perm.refl _
  · exact orderFrom_perm _ _ _

/-- Drawing an order changes nothing but the count of orders drawn. -/
theorem State.inAnyOrder_state {α : Type} (xs : List α) (s : State) :
    ∃ n, (s.inAnyOrder xs).2 = { s with choice := n } := by
  unfold State.inAnyOrder
  split
  · exact ⟨s.choice, rfl⟩
  · exact ⟨s.choice, rfl⟩
  · exact ⟨s.choice + 1, rfl⟩

/-- What the count of orders does not touch and every part keeps, the parts keep in any order. -/
theorem forEachInAnyOrder_induction {α : Type} (P : State → Prop) (xs : List α) (f : α → State → State)
    (choice : ∀ s n, P s → P { s with choice := n }) (step : ∀ x ∈ xs, ∀ s, P s → P (f x s)) (s : State) (h : P s) :
    P (forEachInAnyOrder xs f s) := by
  obtain ⟨n, hn⟩ := s.inAnyOrder_state xs
  refine forEach_induction P _ f (fun x hx t ht => step x ((s.inAnyOrder_perm xs).mem_iff.mp hx) t ht) _ ?_
  rw [hn]
  exact choice s n h

/-- The parts in any order are the parts in some order. -/
theorem forEachInAnyOrder_eq {α : Type} (xs : List α) (f : α → State → State) (s : State) :
    ∃ ys n, ys.Perm xs ∧ forEachInAnyOrder xs f s = forEach ys f { s with choice := n } := by
  obtain ⟨n, hn⟩ := s.inAnyOrder_state xs
  exact ⟨_, n, s.inAnyOrder_perm xs, by rw [← hn]; rfl⟩

theorem forEachInAnyOrder_nil {α : Type} (f : α → State → State) (s : State) : forEachInAnyOrder [] f s = s := rfl

theorem forEachInAnyOrder_single {α : Type} (x : α) (f : α → State → State) (s : State) :
    forEachInAnyOrder [x] f s = f x s := rfl

end Sys2Proof.Machine
end

