-- ==== Sys2Proof/Laws/Background.lean ====
section
/-! SUPPORT. The frame of the shared operations, one lemma each: what no operation of the timebases, the pool, the channels, the points, the pairs, the faults and the units touches. -/

namespace Sys2Proof.Machine

/-- The link, the router, the replay memory, the clock counts, the outside lines and the queue of commands are the
same. -/
structure SameBackground (s t : State) : Prop where
  link : t.link = s.link
  routes : t.routes = s.routes
  idles : t.idles = s.idles
  replay : t.replay = s.replay
  msPhase : t.msPhase = s.msPhase
  samplePhase : t.samplePhase = s.samplePhase
  inputs : t.inputs = s.inputs
  held : t.held = s.held
  msDone : t.msDone = s.msDone
  pending : t.pending = s.pending

theorem SameBackground.refl (s : State) : SameBackground s s := ⟨rfl, rfl, rfl, rfl, rfl, rfl, rfl, rfl, rfl, rfl⟩

theorem SameBackground.trans {s t u : State} (h : SameBackground s t) (g : SameBackground t u) :
    SameBackground s u :=
  ⟨g.1.trans h.1, g.2.trans h.2, g.3.trans h.3, g.4.trans h.4, g.5.trans h.5, g.6.trans h.6, g.7.trans h.7,
    g.8.trans h.8, g.9.trans h.9, g.10.trans h.10⟩

/-! ## Banks, the free list, reports -/

theorem modTb_background (b : Fin 4) (f : Timebase → Timebase) (s : State) : SameBackground s (s.modTb b f) :=
  ⟨rfl, rfl, rfl, rfl, rfl, rfl, rfl, rfl, rfl, rfl⟩

theorem modChan_background (c : Fin 16) (f : Channel → Channel) (s : State) : SameBackground s (s.modChan c f) :=
  ⟨rfl, rfl, rfl, rfl, rfl, rfl, rfl, rfl, rfl, rfl⟩

theorem modPoint_background (p : Fin 8) (f : Point → Point) (s : State) : SameBackground s (s.modPoint p f) :=
  ⟨rfl, rfl, rfl, rfl, rfl, rfl, rfl, rfl, rfl, rfl⟩

theorem modPair_background (k : Fin 8) (f : Pair → Pair) (s : State) : SameBackground s (s.modPair k f) :=
  ⟨rfl, rfl, rfl, rfl, rfl, rfl, rfl, rfl, rfl, rfl⟩

theorem modFault_background (i : Fin 4) (f : FaultSource → FaultSource) (s : State) :
    SameBackground s (s.modFault i f) :=
  ⟨rfl, rfl, rfl, rfl, rfl, rfl, rfl, rfl, rfl, rfl⟩

theorem modUnit_background (u : Fin 4) (f : SpeedUnit → SpeedUnit) (s : State) : SameBackground s (s.modUnit u f) :=
  ⟨rfl, rfl, rfl, rfl, rfl, rfl, rfl, rfl, rfl, rfl⟩

theorem mapTbs_background (f : Fin 4 → Timebase → Timebase) (s : State) : SameBackground s (s.mapTbs f) :=
  by
  constructor <;> simp

theorem mapChans_background (f : Fin 16 → Channel → Channel) (s : State) : SameBackground s (s.mapChans f) :=
  by
  constructor <;> simp

theorem mapPairs_background (f : Fin 8 → Pair → Pair) (s : State) : SameBackground s (s.mapPairs f) :=
  by
  constructor <;> simp

theorem offer_background (r : Report) (s : State) : SameBackground s (s.offer r) :=
  ⟨rfl, rfl, rfl, rfl, rfl, rfl, rfl, rfl, rfl, rfl⟩

theorem offerIf_background (n : Option Byte) (r : Byte → Report) (s : State) : SameBackground s (s.offerIf n r) := by
  cases n
  · exact .refl s
  · exact offer_background _ s

/-! ## Sequences of parts -/

theorem forEach_background {α : Type} (xs : List α) (f : α → State → State)
    (h : ∀ x s, SameBackground s (f x s)) (s : State) : SameBackground s (forEach xs f s) :=
  forEach_induction (SameBackground s) xs f (fun x _ t ht => ht.trans (h x t)) s (.refl s)

theorem forEachInAnyOrder_background {α : Type} (xs : List α) (f : α → State → State)
    (h : ∀ x s, SameBackground s (f x s)) (s : State) : SameBackground s (forEachInAnyOrder xs f s) :=
  forEachInAnyOrder_induction (SameBackground s) xs f (fun _ _ ht => ht.trans ⟨rfl, rfl, rfl, rfl, rfl, rfl, rfl, rfl, rfl, rfl⟩)
    (fun x _ t ht => ht.trans (h x t)) s (.refl s)

/-! ## The pool -/

theorem freeQueue_background (c : Fin 16) (s : State) : SameBackground s (s.freeQueue c) :=
  ⟨rfl, rfl, rfl, rfl, rfl, rfl, rfl, rfl, rfl, rfl⟩

theorem freeReplacement_background (c : Fin 16) (s : State) : SameBackground s (s.freeReplacement c) := by
  unfold State.freeReplacement
  split
  · exact .refl s
  · exact ⟨rfl, rfl, rfl, rfl, rfl, rfl, rfl, rfl, rfl, rfl⟩

theorem supersedeReplacement_background (c : Fin 16) (s : State) : SameBackground s (s.supersedeReplacement c) := by
  unfold State.supersedeReplacement
  split
  · exact .refl s
  · exact (freeReplacement_background c s).trans (offerIf_background _ _ _)

theorem promote_background (c : Fin 16) (s : State) : SameBackground s (s.promote c) := by
  unfold State.promote
  split
  · exact .refl s
  · exact ⟨rfl, rfl, rfl, rfl, rfl, rfl, rfl, rfl, rfl, rfl⟩

theorem completeHead_background (c : Fin 16) (s : State) : SameBackground s (s.completeHead c) := by
  unfold State.completeHead
  split
  · exact .refl s
  · split <;> exact ⟨rfl, rfl, rfl, rfl, rfl, rfl, rfl, rfl, rfl, rfl⟩

/-! ## Rendezvous -/

theorem completeRelease_background (p : Fin 8) (s : State) : SameBackground s (s.completeRelease p) :=
  
  ((mapChans_background _ s).trans (modPoint_background _ _ _)).trans (offer_background _ _)

theorem expireGathering_background (p : Fin 8) (s : State) : SameBackground s (s.expireGathering p) :=
  
  ((mapChans_background _ s).trans (modPoint_background _ _ _)).trans (offer_background _ _)

theorem arrive_background (c : Fin 16) (p : Fin 8) (s : State) : SameBackground s (s.arrive c p) := by
  unfold State.arrive
  split
  · exact completeRelease_background p s
  · exact (modPoint_background _ _ s).trans (modChan_background _ _ _)

theorem withdraw_background (c : Fin 16) (s : State) : SameBackground s (s.withdraw c) := by
  unfold State.withdraw
  split
  · exact modPoint_background _ _ s
  · exact .refl s

/-! ## Pairs -/

theorem restartPair_background (k : Fin 8) (s : State) : SameBackground s (s.restartPair k) := by
  unfold State.restartPair
  split
  · exact modPair_background _ _ s
  · exact .refl s

theorem forcePair_background (c : Fin 16) (s : State) : SameBackground s (s.forcePair c) := by
  unfold State.forcePair
  split
  · exact modPair_background _ _ s
  · exact .refl s

theorem haltPairs_background (halted : Fin 4 → Bool) (s : State) : SameBackground s (s.haltPairs halted) := by
  unfold State.haltPairs
  exact mapPairs_background _ s

theorem rebindPair_background (c : Fin 16) (s old : State) : SameBackground s (s.rebindPair c old) := by
  unfold State.rebindPair
  dsimp only
  split
  · exact .refl s
  · split
    · split
      · exact modPair_background _ _ s
      · exact .refl s
    · split
      · exact restartPair_background _ s
      · split
        · exact .refl s
        · exact modPair_background _ _ s

/-! ## The boundary -/

theorem stageLevel_background (c : Fin 16) (s : State) : SameBackground s (s.stageLevel c) := by
  unfold State.stageLevel
  split
  · exact .refl s
  · exact (modChan_background _ _ s).trans (offerIf_background _ _ _)

theorem stageReplacement_background (c : Fin 16) (s : State) : SameBackground s (s.stageReplacement c) := by
  unfold State.stageReplacement
  split
  · exact .refl s
  · exact (((withdraw_background c s).trans (promote_background c _)).trans (modChan_background _ _ _)).trans
      (offerIf_background _ _ _)

theorem endProgram_background (c : Fin 16) (s : State) : SameBackground s (s.endProgram c) :=
  ⟨rfl, rfl, rfl, rfl, rfl, rfl, rfl, rfl, rfl, rfl⟩

theorem startHeads_background (c : Fin 16) (n : Nat) (s : State) : SameBackground s (State.startHeads c n s) := by
  induction n generalizing s with
  | zero =>
    unfold State.startHeads
    split
    · exact endProgram_background c s
    · exact .refl s
  | succ n ih =>
    unfold State.startHeads
    split
    · exact endProgram_background c s
    · exact ((modChan_background _ _ s).trans (completeHead_background c _)).trans (ih _)
    · exact ((offer_background _ s).trans (completeHead_background c _)).trans (ih _)
    · exact modChan_background _ _ s
    · exact modChan_background _ _ s
    · split
      · exact arrive_background _ _ s
      · exact ((offer_background _ s).trans (completeHead_background c _)).trans (ih _)

theorem stageAdvance_background (c : Fin 16) (s : State) : SameBackground s (s.stageAdvance c) := by
  unfold State.stageAdvance
  dsimp only
  split
  · exact .refl s
  · split
    · exact startHeads_background _ _ s
    · exact modChan_background _ _ s
    · exact (completeHead_background c s).trans (startHeads_background _ _ _)
    · exact .refl s

theorem stageUnforce_background (c : Fin 16) (s : State) : SameBackground s (s.stageUnforce c) := by
  unfold State.stageUnforce
  split
  · exact modChan_background _ _ s
  · exact .refl s

theorem boundaryPair_background (c : Fin 16) (starts x : Bool) (s before : State) :
    SameBackground s (s.boundaryPair c starts x before) := by
  unfold State.boundaryPair
  dsimp only
  split
  · exact .refl s
  · split
    · exact restartPair_background _ s
    · exact modPair_background _ _ s

theorem handleBoundary_background (starts : Bool) (c : Fin 16) (s old : State) :
    SameBackground s (s.handleBoundary starts c old) := by
  unfold State.handleBoundary
  dsimp only
  exact ((((((stageLevel_background c s).trans (stageReplacement_background c _)).trans
    (modChan_background c Channel.applyControl _)).trans (stageAdvance_background c _)).trans
    (modChan_background c _ _)).trans (stageUnforce_background c _)).trans (boundaryPair_background c _ _ _ _)

theorem boundary_background (starts : Bool) (b : Fin 4) (s : State) : SameBackground s (s.boundary starts b) := by
  unfold State.boundary
  refine (modTb_background b _ s).trans (forEachInAnyOrder_background _ _ ?_ _)
  intro part t
  cases part
  · exact offer_background _ t
  · exact handleBoundary_background _ _ t _

theorem startTbs_background (set : List (Fin 4)) (s : State) : SameBackground s (s.startTbs set) := by
  unfold State.startTbs
  exact (mapTbs_background _ s).trans (forEachInAnyOrder_background _ _ (boundary_background true) _)

theorem tickTimebase_background (b : Fin 4) (s : State) : SameBackground s (s.tickTimebase b) := by
  unfold State.tickTimebase
  split
  · exact boundary_background _ _ s
  · exact (modTb_background _ _ s).trans (mapPairs_background _ _)

/-! ## Faults and units -/

theorem forceChannel_background (c : Fin 16) (s : State) : SameBackground s (s.forceChannel c) :=
  (modChan_background _ _ s).trans (forcePair_background c _)

theorem stopChannel_background (c : Fin 16) (s : State) : SameBackground s (s.stopChannel c) := by
  unfold State.stopChannel
  split
  · exact .refl s
  · exact (withdraw_background c s).trans (modChan_background _ _ _)

theorem coverChannel_background (f : Fin 4) (c : Fin 16) (s : State) : SameBackground s (s.coverChannel f c) := by
  unfold State.coverChannel
  split
  · exact .refl s
  · exact forceChannel_background c s
  · exact (forceChannel_background c s).trans (stopChannel_background c _)

theorem latchFault_background (f : Fin 4) (s : State) : SameBackground s (s.latchFault f) := by
  unfold State.latchFault
  dsimp only
  exact ((offer_background _ s).trans (modFault_background _ _ _)).trans
    (forEach_background _ _ (coverChannel_background f) _)

theorem activateFault_background (f : Fin 4) (s : State) : SameBackground s (s.activateFault f) := by
  unfold State.activateFault
  dsimp only
  split
  · exact modFault_background _ _ s
  · exact (modFault_background _ _ s).trans (latchFault_background f _)

theorem clearFault_background (f : Fin 4) (s : State) : SameBackground s (s.clearFault f) :=
  
  ((modFault_background _ _ s).trans (offer_background _ _)).trans (mapChans_background _ _)

theorem settleSpeed_background (s : State) : SameBackground s s.settleSpeed := by
  unfold State.settleSpeed
  split
  · exact .refl s
  · exact modFault_background _ _ s

theorem sampleFaults_background (flt : Vector Bool 2) (s : State) : SameBackground s (s.sampleFaults flt) := by
  unfold State.sampleFaults
  exact ((modFault_background _ _ s).trans (modFault_background _ _ _)).trans
    (forEachInAnyOrder_background _ _ activateFault_background _)

theorem expireWindow_background (u : Fin 4) (s : State) : SameBackground s (s.expireWindow u) := by
  unfold State.expireWindow
  dsimp only
  refine ((modUnit_background u _ s).trans (forEachInAnyOrder_background _ _ ?_ _)).trans (settleSpeed_background _)
  intro e t
  cases e
  · exact offer_background _ t
  · exact activateFault_background _ t

/-! ## Requests to channels and pairs -/

theorem flushChannel_background (c : Fin 16) (s : State) : SameBackground s (s.flushChannel c) :=
  (((withdraw_background c s).trans (freeQueue_background c _)).trans (supersedeReplacement_background c _)).trans
    (modChan_background _ _ _)

theorem coverRetested_background (k : Fin 8) (s : State) : SameBackground s (s.coverRetested k) :=
  forEach_background _ _ (fun f => coverChannel_background f _) s

theorem configPair_background (k : Fin 8) (enable : Bool) (d : Nat) (s : State) :
    SameBackground s (s.configPair k enable d) := by
  unfold State.configPair
  split
  · exact (((modPair_background _ _ s).trans (modChan_background _ _ _)).trans (restartPair_background k _)).trans
      (coverRetested_background k _)
  · exact modPair_background _ _ s
  · exact ((modPair_background _ _ s).trans (modChan_background _ _ _)).trans (coverRetested_background k _)
  · exact modPair_background _ _ s

end Sys2Proof.Machine
end

