-- ==== Sys2Proof/Laws/Taking.lean ====
section
/-! SUPPORT. What the arbiter, the handler and the arrival of a request do, said once: the statements about requests go through `execReady`. -/

namespace Sys2Proof.Machine

/-! ## The arbiter -/

theorem State.arbitrate_of_busy (s : State) (h : s.link.tx ≠ .idle) : s.arbitrate = s := by
  unfold State.arbitrate
  split
  · next hi => exact absurd hi h
  · rfl

theorem sendOldest_eq_none (rs : List Record) (h : rs.any (fun r => !r.sent) = false) : sendOldest rs = none := by
  induction rs with
  | nil => rfl
  | cons r rest ih =>
    simp only [List.any_cons, Bool.or_eq_false_iff] at h
    have hs : r.sent = true := by cases hr : r.sent <;> simp_all
    simp [sendOldest, hs, ih h.2]

/-- With no report eligible the arbiter sends none. -/
theorem State.sendReport_of_not_eligible (s : State) (h : s.reportEligible = false) : s.sendReport = s := by
  unfold State.sendReport
  split
  · next hw =>
    have : (s.reports.records.any fun r => !r.sent) = false := by
      simpa [State.reportEligible, hw] using h
    rw [sendOldest_eq_none _ this]
  · rfl

/-- A settled part leaves the arbiter nothing to choose. -/
theorem State.arbitrate_of_settled (s : State) (h : s.Settled) : s.arbitrate = s := by
  by_cases hi : s.link.tx = .idle
  · obtain ⟨hh, he⟩ := h.1 hi
    unfold State.arbitrate
    simp only [hi, hh]
    exact s.sendReport_of_not_eligible he
  · exact s.arbitrate_of_busy hi

theorem State.canTake_of_settled (s : State) (h : s.Settled) : s.canTake = false := by
  rcases h.2 with hi | hh
  · simp [State.canTake, hi]
  · have : ¬ s.link.holding.length < Config.holdingSize := Nat.not_lt.mpr hh
    simp [State.canTake, this]

/-- A settled part stays as it is at the end of an event. -/
theorem State.settle_of_settled (s : State) (h : s.Settled) : s.settle = s := by
  simp [State.settle, Config.inboundSize, State.settleFor, s.arbitrate_of_settled h, s.canTake_of_settled h]

/-- With no frame waiting, the end of an event is the arbiter's choice. -/
theorem State.settle_of_inbound_nil (s : State) (h : s.link.inbound = []) : s.settle = s.arbitrate := by
  have key : s.arbitrate.link.inbound = [] := by
    unfold State.arbitrate
    split
    · split
      · exact h
      · unfold State.sendReport
        split
        · split
          · exact h
          · exact h
        · exact h
    · exact h
  simp [State.settle, Config.inboundSize, State.settleFor, State.canTake, key]

/-! ## What requests leave of the link -/

/-- A response put at the tail of an empty or busy link: sent at once when the transmitter is IDLE. -/
theorem State.settle_hold (t : State) (r : Response) (e : Option ReplayEntry) (hin : t.link.inbound = [])
    (hidle : t.link.tx = .idle → t.link.holding = []) :
    State.settle { t.hold r with replay := e } = { t.respond r with replay := e } := by
  refine (State.settle_of_inbound_nil { t.hold r with replay := e } hin).trans ?_
  by_cases hi : t.link.tx = .idle
  · have hh := hidle hi
    unfold State.arbitrate
    simp [State.hold, State.respond, hi, hh]
    rfl
  · have : ({ t.hold r with replay := e } : State).link.tx ≠ .idle := hi
    refine (State.arbitrate_of_busy _ this).trans ?_
    simp [State.hold, State.respond]

/-! ## What an effect does to the frames of the link -/

/-- The effect leaves the inbound buffer, and an IDLE transmitter with nothing held. -/
def KeepsFrames (s t : State) : Prop :=
  t.link.inbound = s.link.inbound ∧ (s.link.tx = .idle ↔ t.link.tx = .idle) ∧
    t.link.holding.length = s.link.holding.length

theorem KeepsFrames.of_link {s t : State} (h : t.link = s.link) : KeepsFrames s t := by
  simp [KeepsFrames, h]

/-! ## Arrival of a request -/

/-- The arrival of a request at a ready part: it is performed on `heard`, answered and remembered. -/
theorem receiveRequest_ready (type seq : Byte) (payload : List Byte) (s : State) (hheld : s.held = false)
    (hs : s.Settled) (hroom : s.link.holding.length < Config.holdingSize)
    (hfresh : s.replayOf (requestFrame seq type payload) = none)
    (hkeep : KeepsFrames s.heard (perform (requestFrame seq type payload) s.heard).2) :
    receiveRequest type seq payload s =
      { ((perform (requestFrame seq type payload) s.heard).2.respond
          (buildResponse (requestFrame seq type payload) (perform (requestFrame seq type payload) s.heard).1)) with
        replay := some { seq := seq, crc := (requestFrame seq type payload).crc,
                         response := { buildResponse (requestFrame seq type payload)
                           (perform (requestFrame seq type payload) s.heard).1 with tied := .none } } } := by
  have hin : s.link.inbound = [] := by
    rcases hs.2 with h | h
    · exact h
    · exact absurd hroom (Nat.not_lt.mpr h)
  have hset : State.Settled (s.modLink Link.afterFrame) := hs
  unfold receiveRequest
  simp only [hheld, Bool.false_eq_true, if_false]
  unfold State.deliver
  rw [State.arbitrate_of_settled _ hset]
  have hoffer : (((s.modLink Link.afterFrame).hearHost).modLink fun l => l.offerFrame (requestFrame seq type payload))
      = { s.heard with link := { s.heard.link with inbound := [requestFrame seq type payload] } } := by
    simp [State.hearHost, State.heard, State.modLink, State.deactivateFault, State.modFault, Link.offerFrame,
      Link.afterFrame, Config.inboundSize, hin, silence]
  rw [hoffer]
  have htake : State.canTake
      { s.heard with link := { s.heard.link with inbound := [requestFrame seq type payload] } } = true := by
    exact decide_eq_true hroom
  have hstate : State.takeRequest
      { s.heard with link := { s.heard.link with inbound := [requestFrame seq type payload] } }
      = s.heard.handle (requestFrame seq type payload) := by
    have : ({ s.heard with link := { s.heard.link with inbound := [] } } : State) = s.heard := by
      simp [State.heard, hin]
    simp only [State.takeRequest, State.modLink]
    exact congrArg (State.handle (requestFrame seq type payload)) this
  simp only [htake, if_true, hstate]
  have hf : s.heard.replayOf (requestFrame seq type payload) = none := hfresh
  unfold State.handle
  simp only [hf]
  refine State.settle_hold _ _ _ ?_ ?_
  · rw [hkeep.1]; exact hin
  · intro h
    have hidle : s.heard.link.tx = .idle := hkeep.2.1.mpr h
    have : s.link.holding = [] := (hs.1 hidle).1
    exact List.eq_nil_of_length_eq_zero (by rw [hkeep.2.2]; simp [State.heard, this])

theorem requestKindOf_code (k : RequestKind) : requestKindOf k.code = some k := by
  cases k <;> decide

/-- A request at a ready part is answered as `perform` says. -/
theorem execReady (k : RequestKind) (seq : Byte) (payload : List Byte) (s : State)
    (h : s.Ready (k.command seq payload))
    (hkeep : KeepsFrames s.heard (perform (requestFrame seq k.code payload) s.heard).2) :
    Answered (k.command seq payload) s (perform (requestFrame seq k.code payload) s.heard).1.status
      (perform (requestFrame seq k.code payload) s.heard).1.payload
      (perform (requestFrame seq k.code payload) s.heard).1.tied
      (perform (requestFrame seq k.code payload) s.heard).2 := by
  have hframe : commandFrame (k.command seq payload) = requestFrame seq k.code payload := by cases k <;> rfl
  have hexec : exec (k.command seq payload) s = .next (receiveRequest k.code seq payload s) := by cases k <;> rfl
  obtain ⟨h1, h2, h3, h4⟩ := h
  rw [hframe] at h4
  unfold Answered
  rw [hexec, receiveRequest_ready k.code seq payload s h1 h2 h3 h4 hkeep]
  unfold State.answer responseTo
  rw [hframe]
  rfl

/-- `execReady` with the outcome of `perform` named. -/
theorem execReady_of (k : RequestKind) (seq : Byte) (payload : List Byte) (s t : State) (r : Reply)
    (h : s.Ready (k.command seq payload))
    (hp : perform (requestFrame seq k.code payload) s.heard = (r, t)) (hkeep : KeepsFrames s.heard t) :
    Answered (k.command seq payload) s r.status r.payload r.tied t := by
  have := execReady k seq payload s h (by rw [hp]; exact hkeep)
  rwa [hp] at this

end Sys2Proof.Machine
end

