-- ==== Sys2Proof/Laws/Clock.lean ====
section
/-! SUPPORT. What a step with no command waiting can do, said once: nothing, a reference period, or one due event. -/

namespace Sys2Proof.Machine

theorem State.idleStep_of_held (s : State) (h : s.held = true) : s.idleStep = .next s := by
  simp [State.idleStep, h]

theorem State.idleStep_of_none_due (s : State) (hheld : s.held = false) (h : s.clockEvents = []) :
    s.idleStep = .next s.arbitrate.clockPeriod := by
  simp [State.idleStep, hheld, h, State.inAnyOrder]

/-- Where events are due, one of them is executed, and the count of orders drawn is all that it finds changed. -/
theorem State.idleStep_of_due (s : State) (hheld : s.held = false) (h : s.clockEvents ≠ []) :
    ∃ c ∈ s.clockEvents, ∃ n, s.idleStep = exec c { s with choice := n } := by
  obtain ⟨n, hn⟩ := s.inAnyOrder_state s.clockEvents
  have hp := s.inAnyOrder_perm s.clockEvents
  cases hl : (s.inAnyOrder s.clockEvents).1 with
  | nil => exact absurd (List.nil_perm.mp (hl ▸ hp)) h
  | cons c rest =>
    refine ⟨c, hp.mem_iff.mp (by simp [hl]), n, ?_⟩
    simp [State.idleStep, hheld, hl, hn]

/-- The events due at a clock edge are these and no others (R1, R2, R99, R122, R126, R130, R135). -/
theorem State.mem_clockEvents (s : State) (c : Instr) :
    c ∈ s.clockEvents ↔
      ((∃ b : Fin 4, c = .timebaseTick b ∧ s.tbs[b].state = .running ∧ s.tbs[b].divider ≤ s.tbs[b].prescaler) ∨
      (c = .millisecondTick ∧ 32000 ≤ s.msPhase) ∨
      (c = .inputSample s.inputs ∧ 32 ≤ s.samplePhase) ∨
      (c = .transmitCompletion ∧ ∃ frame rate age, s.link.tx = .sending frame rate age ∧
        rate.charTime * frame.bytes.length ≤ age) ∨
      (c = .abortedFrameEnd ∧ ∃ frame rate age, s.link.tx = .aborted frame rate age ∧
        rate.charTime * frame.bytes.length ≤ age) ∨
      (∃ r, s.link.rxChar = some r ∧ 9 ≤ r.bits.length ∧ sampleAge s.link.rate 9 ≤ r.age ∧
        c = if s.link.rxd = true then .characterReceived (byteOfBits r.bits) else .characterFault)) := by
  unfold State.clockEvents
  simp only [List.mem_append, or_assoc]
  refine or_congr ?_ (or_congr ?_ (or_congr ?_ ?_))
  · simp only [List.mem_flatMap, List.mem_finRange, true_and]
    refine exists_congr fun b => ?_
    unfold State.tickEvent
    split <;> simp_all
  · by_cases h : 32000 ≤ s.msPhase <;> simp [Config.refPerMillisecond, h]
  · by_cases h : 32 ≤ s.samplePhase <;> simp [Config.refPerSample, h]
  · rw [← or_assoc]
    refine or_congr ?_ ?_
    · unfold Transmitter.event
      cases h : s.link.tx with
      | idle => simp
      | sending f r a => by_cases h2 : r.charTime * f.bytes.length ≤ a <;> simp [frameEnd, h2]
      | aborted f r a => by_cases h2 : r.charTime * f.bytes.length ≤ a <;> simp [frameEnd, h2]
    · cases h : s.link.rxChar with
      | none => simp
      | some r =>
        unfold RxChar.event
        by_cases h1 : 9 ≤ r.bits.length <;> by_cases h2 : sampleAge s.link.rate 9 ≤ r.age <;> simp [h1, h2]

/-- What a step on an empty queue leads to has a property that holds of the same state, of the state a reference period
later, and of every state that a due event leads to. -/
theorem State.idleStep_induction (P : State → Prop) (s t : State) (h : s.idleStep = .next t) (same : P s)
    (period : P s.arbitrate.clockPeriod)
    (event : ∀ c ∈ s.clockEvents, ∀ n u, exec c { s with choice := n } = .next u → P u) : P t := by
  cases hheld : s.held with
  | true =>
    rw [s.idleStep_of_held hheld] at h
    exact (Host.Outcome.next.inj h) ▸ same
  | false =>
    by_cases hc : s.clockEvents = []
    · rw [s.idleStep_of_none_due hheld hc] at h
      exact (Host.Outcome.next.inj h) ▸ period
    · obtain ⟨c, hmem, n, he⟩ := s.idleStep_of_due hheld hc
      exact event c hmem n t (he ▸ h)

end Sys2Proof.Machine
end

