-- ==== Sys2Proof/Laws/PerInstr.lean ====
section
/-! SUPPORT. Per command: a well-formed request command is the one its own frame body spells (R157). -/

namespace Sys2Proof.Laws.FrameSpells

/-- If the command reaches the part by a frame, the body of that frame spells it. -/
def Statement (i : Instr) : Prop :=
  i.wellFormed = true → ∀ seq type payload, i.body? = some (seq, type, payload) → commandOfBody seq type payload = i

theorem commandOfBody_code (k : RequestKind) (seq : Byte) (payload : List Byte) :
    commandOfBody seq k.code payload = k.command seq payload := by
  cases k <;> rfl

/-- An event has no frame. -/
theorem of_event (i : Instr) (h : i.body? = none) : Statement i := by
  intro _ seq type payload hb
  rw [h] at hb
  cases hb

theorem of_request (k : RequestKind) (seq : Byte) (payload : List Byte)
    (h : (k.command seq payload).body? = some (seq, k.code, payload)) : Statement (k.command seq payload) := by
  intro _ s t p hb
  rw [h] at hb
  cases hb
  exact commandOfBody_code k seq payload

theorem unknownRequestKind (seq type : Byte) (payload : List Byte) :
    Statement (.unknownRequestKind seq type payload) := by
  intro hw s t p hb
  cases hb
  have hn : requestKindOf type = none := by
    simpa [Instr.wellFormed] using (Bool.and_eq_true_iff.mp hw).2
  simp [commandOfBody, hn]

theorem powerOnReset : Statement .powerOnReset := of_event _ rfl

theorem rstNAssert : Statement .rstNAssert := of_event _ rfl

theorem pinReset : Statement .pinReset := of_event _ rfl

theorem millisecondTick : Statement .millisecondTick := of_event _ rfl

theorem timebaseTick (tb : Fin 4) : Statement (.timebaseTick tb) := of_event _ rfl

theorem boundary (tb : Fin 4) : Statement (.boundary tb) := of_event _ rfl

theorem pairRiseDelayExpiry (pair : Fin 8) : Statement (.pairRiseDelayExpiry pair) := of_event _ rfl

theorem inputSample (lines : InputLines) : Statement (.inputSample lines) := of_event _ rfl

theorem gatheringTimerExpiry (point : Fin 8) : Statement (.gatheringTimerExpiry point) := of_event _ rfl

theorem speedWindowExpiry (unit : Fin 4) : Statement (.speedWindowExpiry unit) := of_event _ rfl

theorem hostSilenceExpiry : Statement .hostSilenceExpiry := of_event _ rfl

theorem interByteTimeout : Statement .interByteTimeout := of_event _ rfl

theorem linkBreak : Statement .linkBreak := of_event _ rfl

theorem characterReceived (byte : Byte) : Statement (.characterReceived byte) := of_event _ rfl

theorem characterFault : Statement .characterFault := of_event _ rfl

theorem transmitCompletion : Statement .transmitCompletion := of_event _ rfl

theorem abortedFrameEnd : Statement .abortedFrameEnd := of_event _ rfl

theorem getInfo (seq : Byte) (payload : List Byte) : Statement (.getInfo seq payload) :=
  of_request .getInfo seq payload rfl

theorem getStatus (seq : Byte) (payload : List Byte) : Statement (.getStatus seq payload) :=
  of_request .getStatus seq payload rfl

theorem setLink (seq : Byte) (payload : List Byte) : Statement (.setLink seq payload) :=
  of_request .setLink seq payload rfl

theorem resetDevice (seq : Byte) (payload : List Byte) : Statement (.resetDevice seq payload) :=
  of_request .resetDevice seq payload rfl

theorem tbConfig (seq : Byte) (payload : List Byte) : Statement (.tbConfig seq payload) :=
  of_request .tbConfig seq payload rfl

theorem tbStart (seq : Byte) (payload : List Byte) : Statement (.tbStart seq payload) :=
  of_request .tbStart seq payload rfl

theorem tbStop (seq : Byte) (payload : List Byte) : Statement (.tbStop seq payload) :=
  of_request .tbStop seq payload rfl

theorem tbPeriod (seq : Byte) (payload : List Byte) : Statement (.tbPeriod seq payload) :=
  of_request .tbPeriod seq payload rfl

theorem tbQuery (seq : Byte) (payload : List Byte) : Statement (.tbQuery seq payload) :=
  of_request .tbQuery seq payload rfl

theorem chQuota (seq : Byte) (payload : List Byte) : Statement (.chQuota seq payload) :=
  of_request .chQuota seq payload rfl

theorem segAppend (seq : Byte) (payload : List Byte) : Statement (.segAppend seq payload) :=
  of_request .segAppend seq payload rfl

theorem segReplace (seq : Byte) (payload : List Byte) : Statement (.segReplace seq payload) :=
  of_request .segReplace seq payload rfl

theorem chConfig (seq : Byte) (payload : List Byte) : Statement (.chConfig seq payload) :=
  of_request .chConfig seq payload rfl

theorem chLevel (seq : Byte) (payload : List Byte) : Statement (.chLevel seq payload) :=
  of_request .chLevel seq payload rfl

theorem chStart (seq : Byte) (payload : List Byte) : Statement (.chStart seq payload) :=
  of_request .chStart seq payload rfl

theorem chPause (seq : Byte) (payload : List Byte) : Statement (.chPause seq payload) :=
  of_request .chPause seq payload rfl

theorem chResume (seq : Byte) (payload : List Byte) : Statement (.chResume seq payload) :=
  of_request .chResume seq payload rfl

theorem chFlush (seq : Byte) (payload : List Byte) : Statement (.chFlush seq payload) :=
  of_request .chFlush seq payload rfl

theorem chQuery (seq : Byte) (payload : List Byte) : Statement (.chQuery seq payload) :=
  of_request .chQuery seq payload rfl

theorem rpDefine (seq : Byte) (payload : List Byte) : Statement (.rpDefine seq payload) :=
  of_request .rpDefine seq payload rfl

theorem rpQuery (seq : Byte) (payload : List Byte) : Statement (.rpQuery seq payload) :=
  of_request .rpQuery seq payload rfl

theorem pairConfig (seq : Byte) (payload : List Byte) : Statement (.pairConfig seq payload) :=
  of_request .pairConfig seq payload rfl

theorem routeSet (seq : Byte) (payload : List Byte) : Statement (.routeSet seq payload) :=
  of_request .routeSet seq payload rfl

theorem pinConfig (seq : Byte) (payload : List Byte) : Statement (.pinConfig seq payload) :=
  of_request .pinConfig seq payload rfl

theorem outQuery (seq : Byte) (payload : List Byte) : Statement (.outQuery seq payload) :=
  of_request .outQuery seq payload rfl

theorem faultConfig (seq : Byte) (payload : List Byte) : Statement (.faultConfig seq payload) :=
  of_request .faultConfig seq payload rfl

theorem faultClear (seq : Byte) (payload : List Byte) : Statement (.faultClear seq payload) :=
  of_request .faultClear seq payload rfl

theorem faultQuery (seq : Byte) (payload : List Byte) : Statement (.faultQuery seq payload) :=
  of_request .faultQuery seq payload rfl

theorem smConfig (seq : Byte) (payload : List Byte) : Statement (.smConfig seq payload) :=
  of_request .smConfig seq payload rfl

theorem smQuery (seq : Byte) (payload : List Byte) : Statement (.smQuery seq payload) :=
  of_request .smQuery seq payload rfl

theorem rptAck (seq : Byte) (payload : List Byte) : Statement (.rptAck seq payload) :=
  of_request .rptAck seq payload rfl

theorem rptResend (seq : Byte) (payload : List Byte) : Statement (.rptResend seq payload) :=
  of_request .rptResend seq payload rfl

theorem rxdRisingEdge : Statement .rxdRisingEdge := of_event _ rfl

theorem rxdFallingEdge : Statement .rxdFallingEdge := of_event _ rfl

end Sys2Proof.Laws.FrameSpells
end

