-- ==== Sys2Proof/Laws/Requests.lean ====
section
/-! SUPPORT. What every request does to the link's frames, said once (`perform_keepsFrames`), so that a ready part's answer to a request is what `perform` says (`answered_of_perform`); and the list of checks. -/

namespace Sys2Proof.Machine

theorem KeepsFrames.refl (s : State) : KeepsFrames s s := .of_link rfl

theorem accept_keeps (st : Status) (payload : List Byte) {s t : State} (h : SameBackground s t) :
    KeepsFrames s (accept st payload t).2 := .of_link h.link

/-! ## The list of checks (R138) -/

theorem checked_nil (s : State) (e : Reply × State) : checked [] s e = e := rfl

theorem checked_fails (st : Status) (rest : List (Bool × Status)) (s : State) (e : Reply × State) :
    checked ((true, st) :: rest) s e = refuse st s := rfl

theorem checked_passes (st : Status) (rest : List (Bool × Status)) (s : State) (e : Reply × State) :
    checked ((false, st) :: rest) s e = checked rest s e := rfl

/-- A checked request is refused, or does what it does. -/
theorem checked_cases (tests : List (Bool × Status)) (s : State) (e : Reply × State) :
    (∃ st, checked tests s e = refuse st s) ∨ checked tests s e = e := by
  unfold checked
  split
  · exact .inl ⟨_, rfl⟩
  · exact .inr rfl

theorem checked_keeps (tests : List (Bool × Status)) (s : State) (e : Reply × State) (h : KeepsFrames s e.2) :
    KeepsFrames s (checked tests s e).2 := by
  rcases checked_cases tests s e with ⟨st, hr⟩ | hr
  · rw [hr]; exact .refl s
  · rw [hr]; exact h

/-! ## The frames of the link, by request -/

theorem takeGetInfo_keepsFrames (p : List Byte) (s : State) : KeepsFrames s (takeGetInfo p s).2 := by
  unfold takeGetInfo
  split <;> exact .refl s

theorem takeGetStatus_keepsFrames (p : List Byte) (s : State) : KeepsFrames s (takeGetStatus p s).2 := by
  unfold takeGetStatus
  split
  · exact .refl s
  · split
    · exact .refl s
    · simp only [accept]
      split
      · simp [KeepsFrames, Link.clearCounters]
      · exact .refl s

theorem Transmitter.untieRate_idle (t : Transmitter) : t.untieRate = .idle ↔ t = .idle := by
  cases t with
  | idle => simp [Transmitter.untieRate]
  | sending frame rate age =>
    simp only [Transmitter.untieRate]
    split <;> simp
  | aborted frame rate age => simp [Transmitter.untieRate]

theorem changeLink_keepsFrames (rate : Option Rate) (window limit : Option Nat) (s : State) :
    KeepsFrames s (s.changeLink rate window limit) := by
  unfold State.changeLink
  cases rate <;> cases window <;> cases limit <;>
    simp [KeepsFrames, Link.setPendingRate, Link.setSilenceLimit, Transmitter.untieRate_idle]

theorem takeSetLink_keepsFrames (p : List Byte) (s : State) : KeepsFrames s (takeSetLink p s).2 := by
  unfold takeSetLink
  split
  · exact .refl s
  · split
    · split
      · exact .refl s
      · exact changeLink_keepsFrames _ _ _ s
    · exact .refl s

theorem takeResetDevice_keepsFrames (p : List Byte) (s : State) : KeepsFrames s (takeResetDevice p s).2 := by
  unfold takeResetDevice
  split <;> exact .refl s

theorem dropPendingPeriod_background (b : Fin 4) (s : State) : SameBackground s (s.dropPendingPeriod b) :=
  (modTb_background _ _ s).trans (offerIf_background _ _ _)

theorem takeTbConfig_keepsFrames (p : List Byte) (s : State) : KeepsFrames s (takeTbConfig p s).2 := by
  unfold takeTbConfig
  split
  · exact .refl s
  · split
    · split
      · exact .refl s
      · exact accept_keeps _ _ ((dropPendingPeriod_background _ s).trans (modTb_background _ _ _))
    · exact .refl s

theorem takeTbStart_keepsFrames (p : List Byte) (s : State) : KeepsFrames s (takeTbStart p s).2 := by
  unfold takeTbStart
  split
  · exact .refl s
  · split
    · exact .refl s
    · split
      · exact .refl s
      · exact accept_keeps _ _ (startTbs_background _ s)

theorem takeTbStop_keepsFrames (p : List Byte) (s : State) : KeepsFrames s (takeTbStop p s).2 := by
  unfold takeTbStop
  split
  · exact .refl s
  · split
    · exact .refl s
    · exact accept_keeps _ _ ((mapTbs_background _ s).trans (haltPairs_background _ _))

theorem takeTbPeriod_keepsFrames (seq : Byte) (p : List Byte) (s : State) :
    KeepsFrames s (takeTbPeriod seq p s).2 := by
  unfold takeTbPeriod
  split
  · exact .refl s
  · split
    · split
      · exact accept_keeps _ _ ((dropPendingPeriod_background _ s).trans (modTb_background _ _ _))
      · exact accept_keeps _ _ ((dropPendingPeriod_background _ s).trans (modTb_background _ _ _))
      · split
        · exact accept_keeps _ _ ((dropPendingPeriod_background _ s).trans (modTb_background _ _ _))
        · exact accept_keeps _ _ (((dropPendingPeriod_background _ s).trans (modTb_background _ _ _)).trans
            (offer_background _ _))
    · exact .refl s

theorem takeTbQuery_keepsFrames (p : List Byte) (s : State) : KeepsFrames s (takeTbQuery p s).2 := by
  unfold takeTbQuery
  split
  · exact .refl s
  · split <;> exact .refl s

theorem takeChQuota_keepsFrames (p : List Byte) (s : State) : KeepsFrames s (takeChQuota p s).2 := by
  unfold takeChQuota
  split
  · exact .refl s
  · exact checked_keeps _ _ _ (accept_keeps _ _ (mapChans_background _ s))

theorem takeSegAppend_keepsFrames (p : List Byte) (s : State) : KeepsFrames s (takeSegAppend p s).2 := by
  unfold takeSegAppend
  split
  · exact .refl s
  · split
    · exact checked_keeps _ _ _ (.of_link rfl)
    · exact .refl s

theorem takeToReplacement_background (c : Fin 16) (segs : List Segment) (n : Option Byte) (s : State) :
    SameBackground s (s.takeToReplacement c segs n) :=
  ⟨rfl, rfl, rfl, rfl, rfl, rfl, rfl, rfl, rfl, rfl⟩

theorem takeSegReplace_keepsFrames (seq : Byte) (p : List Byte) (s : State) :
    KeepsFrames s (takeSegReplace seq p s).2 := by
  unfold takeSegReplace
  split
  · exact .refl s
  · split
    · exact checked_keeps _ _ _
        (accept_keeps _ _ ((supersedeReplacement_background _ s).trans (takeToReplacement_background _ _ _ _)))
    · exact .refl s

theorem takeChConfig_keepsFrames (p : List Byte) (s : State) : KeepsFrames s (takeChConfig p s).2 := by
  unfold takeChConfig
  split
  · exact .refl s
  · split
    · exact checked_keeps _ _ _
        (accept_keeps _ _ ((mapChans_background _ s).trans (rebindPair_background _ _ s)))
    · exact .refl s

theorem takeChLevel_keepsFrames (seq : Byte) (p : List Byte) (s : State) :
    KeepsFrames s (takeChLevel seq p s).2 := by
  unfold takeChLevel
  split
  · exact .refl s
  · split
    · exact checked_keeps _ _ _ (accept_keeps _ _ ((modChan_background _ _ s).trans (offerIf_background _ _ _)))
    · exact .refl s

theorem forSet_keepsFrames (p : List Byte) (s : State) (bad : Channel → Bool) (effect : ChSet → Reply × State)
    (h : ∀ set, KeepsFrames s (effect set).2) : KeepsFrames s (forSet p s bad effect).2 := by
  unfold forSet
  split
  · exact .refl s
  · exact checked_keeps _ _ _ (h _)

theorem takeChStart_keepsFrames (p : List Byte) (s : State) : KeepsFrames s (takeChStart p s).2 :=
  forSet_keepsFrames _ _ _ _ fun _ => accept_keeps _ _ (mapChans_background _ s)

theorem takeChPause_keepsFrames (p : List Byte) (s : State) : KeepsFrames s (takeChPause p s).2 :=
  forSet_keepsFrames _ _ _ _ fun _ => accept_keeps _ _ (mapChans_background _ s)

theorem takeChResume_keepsFrames (p : List Byte) (s : State) : KeepsFrames s (takeChResume p s).2 :=
  forSet_keepsFrames _ _ _ _ fun _ => accept_keeps _ _ (mapChans_background _ s)

theorem takeChFlush_keepsFrames (p : List Byte) (s : State) : KeepsFrames s (takeChFlush p s).2 :=
  forSet_keepsFrames _ _ _ _ fun _ =>
    accept_keeps _ _ (forEachInAnyOrder_background _ _ flushChannel_background s)

theorem takeChQuery_keepsFrames (p : List Byte) (s : State) : KeepsFrames s (takeChQuery p s).2 := by
  unfold takeChQuery
  split
  · exact .refl s
  · split <;> exact .refl s

theorem takeRpDefine_keepsFrames (p : List Byte) (s : State) : KeepsFrames s (takeRpDefine p s).2 := by
  unfold takeRpDefine
  split
  · exact .refl s
  · split
    · split <;> exact .of_link rfl
    · exact .refl s

theorem takeRpQuery_keepsFrames (p : List Byte) (s : State) : KeepsFrames s (takeRpQuery p s).2 := by
  unfold takeRpQuery
  split
  · exact .refl s
  · split <;> exact .refl s

theorem takePairConfig_keepsFrames (p : List Byte) (s : State) : KeepsFrames s (takePairConfig p s).2 := by
  unfold takePairConfig
  split
  · exact .refl s
  · split
    · split
      · exact .refl s
      · exact accept_keeps _ _ (configPair_background _ _ _ s)
    · exact .refl s

theorem takeRouteSet_keepsFrames (p : List Byte) (s : State) : KeepsFrames s (takeRouteSet p s).2 := by
  unfold takeRouteSet
  split
  · exact .refl s
  · split <;> exact .of_link rfl

theorem takePinConfig_keepsFrames (p : List Byte) (s : State) : KeepsFrames s (takePinConfig p s).2 := by
  unfold takePinConfig
  split
  · exact .refl s
  · split <;> exact .of_link rfl

theorem takeOutQuery_keepsFrames (p : List Byte) (s : State) : KeepsFrames s (takeOutQuery p s).2 := by
  unfold takeOutQuery
  split <;> exact .refl s

theorem takeFaultConfig_keepsFrames (p : List Byte) (s : State) : KeepsFrames s (takeFaultConfig p s).2 := by
  unfold takeFaultConfig
  split
  · exact .refl s
  · split
    · split
      · split <;> exact .of_link rfl
      · exact .refl s
    · exact .refl s

theorem takeFaultClear_keepsFrames (p : List Byte) (s : State) : KeepsFrames s (takeFaultClear p s).2 := by
  unfold takeFaultClear
  split
  · exact .refl s
  · split
    · exact .refl s
    · split
      · exact .refl s
      · split
        · exact accept_keeps _ _ (clearFault_background _ s)
        · exact .refl s

theorem takeFaultQuery_keepsFrames (p : List Byte) (s : State) : KeepsFrames s (takeFaultQuery p s).2 := by
  unfold takeFaultQuery
  split
  · exact .refl s
  · split <;> exact .refl s

theorem takeSmConfig_keepsFrames (p : List Byte) (s : State) : KeepsFrames s (takeSmConfig p s).2 := by
  unfold takeSmConfig
  split
  · exact .refl s
  · split
    · exact accept_keeps _ _ ((modUnit_background _ _ s).trans (settleSpeed_background _))
    · exact .refl s

theorem takeSmQuery_keepsFrames (p : List Byte) (s : State) : KeepsFrames s (takeSmQuery p s).2 := by
  unfold takeSmQuery
  split
  · exact .refl s
  · split <;> exact .refl s

theorem takeRptAck_keepsFrames (p : List Byte) (s : State) : KeepsFrames s (takeRptAck p s).2 := by
  unfold takeRptAck
  split
  · exact .refl s
  · split <;> exact .of_link rfl

theorem takeRptResend_keepsFrames (p : List Byte) (s : State) : KeepsFrames s (takeRptResend p s).2 := by
  unfold takeRptResend
  split <;> exact .of_link rfl

/-- No request touches the inbound buffer, makes an IDLE transmitter busy or a busy one IDLE, or changes how many
responses are held. -/
theorem perform_keepsFrames (f : Frame) (s : State) : KeepsFrames s (perform f s).2 := by
  unfold perform
  split
  · exact .refl s
  · next kind _ =>
    cases kind
    · exact takeGetInfo_keepsFrames _ s
    · exact takeGetStatus_keepsFrames _ s
    · exact takeSetLink_keepsFrames _ s
    · exact takeResetDevice_keepsFrames _ s
    · exact takeTbConfig_keepsFrames _ s
    · exact takeTbStart_keepsFrames _ s
    · exact takeTbStop_keepsFrames _ s
    · exact takeTbPeriod_keepsFrames _ _ s
    · exact takeTbQuery_keepsFrames _ s
    · exact takeChQuota_keepsFrames _ s
    · exact takeSegAppend_keepsFrames _ s
    · exact takeSegReplace_keepsFrames _ _ s
    · exact takeChConfig_keepsFrames _ s
    · exact takeChLevel_keepsFrames _ _ s
    · exact takeChStart_keepsFrames _ s
    · exact takeChPause_keepsFrames _ s
    · exact takeChResume_keepsFrames _ s
    · exact takeChFlush_keepsFrames _ s
    · exact takeChQuery_keepsFrames _ s
    · exact takeRpDefine_keepsFrames _ s
    · exact takeRpQuery_keepsFrames _ s
    · exact takePairConfig_keepsFrames _ s
    · exact takeRouteSet_keepsFrames _ s
    · exact takePinConfig_keepsFrames _ s
    · exact takeOutQuery_keepsFrames _ s
    · exact takeFaultConfig_keepsFrames _ s
    · exact takeFaultClear_keepsFrames _ s
    · exact takeFaultQuery_keepsFrames _ s
    · exact takeSmConfig_keepsFrames _ s
    · exact takeSmQuery_keepsFrames _ s
    · exact takeRptAck_keepsFrames _ s
    · exact takeRptResend_keepsFrames _ s

/-- A ready part answers a request as `perform` says: to know the answer is to evaluate `perform`. -/
theorem answered_of_perform (k : RequestKind) (seq : Byte) (payload : List Byte) (s t : State) (r : Reply)
    (h : s.Ready (k.command seq payload)) (hp : perform (requestFrame seq k.code payload) s.heard = (r, t)) :
    Answered (k.command seq payload) s r.status r.payload r.tied t :=
  execReady_of k seq payload s t r h hp (by
    have := perform_keepsFrames (requestFrame seq k.code payload) s.heard
    rwa [hp] at this)

end Sys2Proof.Machine
end

