-- ==== Sys2Proof/Tests/Slice0.lean ====
section
/-! SUPPORT. The session's own tests: ill-formed commands, one step of each command on a small state, and for each statement a state and operands that meet its hypotheses. -/

set_option Elab.async false

namespace Sys2Proof.Machine.Tests

/-! ## Small states -/

def after (c : Instr) (s : State) : State :=
  match exec c s with
  | .next t => t
  | .fault _ => s
  | .refused _ => s

/-- The status and payload with which the last request was answered. -/
def answer (s : State) : Option (Status × List Byte) := s.replay.map fun e => (e.response.status, e.response.payload)

/-- After power-on, the transmitter sending RESTARTED. -/
def base : State := after .powerOnReset State.reset

/-- After power-on, RESTARTED sent. -/
def quiet : State := after .transmitCompletion base

/-- TB1 RUNNING with counter 5, and CH0 alone bound to it. -/
def running : State :=
  (base.modTb 1 fun tb => { tb with state := .running, counter := 5, divider := 8, prescaler := 7 }).modChan 0 fun ch => { ch with tb := 1 }

/-- TB1 at its last tick before a boundary. -/
def lastTick : State := running.modTb 1 fun tb => { tb with counter := 1023 }

/-- CH0 with a head in progress or not. -/
def playing (state : ChState) (queue : List Segment) (run : HeadRun) : State :=
  lastTick.modChan 0 fun ch => { ch with state := state, queue := queue, run := run }

/-- CH0 and CH1 members of RP0, with a timeout. -/
def gathering (arrived : ChSet) (timer : Option Nat) : State :=
  (playing .running [.sync 0] .clear).modPoint 0 fun p =>
    { p with members := 3, timeout := 4, arrived := arrived, timer := timer }

/-- PAIR0 enabled, its even channel on the RUNNING TB1. -/
def paired : State :=
  ((running.modPair 0 fun p => { p with enabled := true, deadTime := 3 }).modChan 1 fun ch =>
    { ch with tb := 1, locked := true }).modChan 0 fun ch => { ch with dutyI := 4 }

/-- A source latched, active or not, with an action on CH0 and CH1. -/
def faulty (f : Fin 4) (action : Action) (active : Bool) : State :=
  base.modFault f fun src => { src with action := action, chans := 3, latched := true, active := active }

/-- A unit MEASURING whose window ends at the next millisecond tick. -/
def measuring (edges : Nat) (reported linked : Bool) : State :=
  base.modUnit 0 fun u =>
    { u with state := .measuring, window := 1, timer := some 0, edges := edges, minCount := 3, maxCount := 9,
             limit := 1, limitReported := reported, linked := linked }

/-- The link with another receiver state. -/
def receiving (r : Receiver) : State := base.modLink fun l => { l with receiver := r, interByte := some 1 }

/-- A response to hold. -/
def held0 : Response where
  seq := 9
  type := 0x81
  status := .ok
  replayed := false
  dropped := false
  payload := []
  tied := .none

/-- The holding queue full, some frames waiting. -/
def full (waiting : List Frame) : State := base.modLink fun l => { l with holding := [held0, held0], inbound := waiting }

/-- A frame in flight whose end is due. -/
def sending (kind : FrameKind) : State :=
  base.modLink fun l => { l with tx := .sending { kind := kind, bytes := [0xA5] } .b115200 2780 }

def resetHeld : State := after .rstNAssert base

/-- A report queue of `n` records, the newest one OVERFLOW or not. -/
def queueOf (n : Nat) (newest : Report) : ReportQueue where
  records := (List.replicate (n - 1) { number := 0, report := .faultCleared 0, sent := false })
    ++ [{ number := 0, report := newest, sent := false }]
  next := 1
  window := 4

/-! ## Ill-formed commands, one for each check -/

theorem test_payload_too_long : (Instr.segAppend 0 (List.replicate 197 0)).wellFormed = false := by decide +kernel

theorem test_longest_payload : (Instr.segAppend 0 (List.replicate 196 0)).wellFormed = true := by decide +kernel

theorem test_unknown_kind_with_a_request_code : (Instr.unknownRequestKind 0 0x20 []).wellFormed = false := by
  decide +kernel

theorem test_unknown_kind : (Instr.unknownRequestKind 0 0x21 []).wellFormed = true := by decide +kernel

theorem test_unknown_kind_too_long : (Instr.unknownRequestKind 0 0x21 (List.replicate 197 0)).wellFormed = false := by
  decide +kernel

/-! ## The model's own tables -/

theorem test_no_table_word : decodeTableWord 8 1 = none := rfl

theorem test_crc_check_value : crc16 [0x31, 0x32, 0x33, 0x34, 0x35, 0x36, 0x37, 0x38, 0x39] = 0x29B1 := by
  decide +kernel

theorem test_frame_of_restarted :
    base.link.tx = .sending { kind := .report, bytes := frameBytes [0, 0x40, 0] } .b115200 0 := by decide +kernel

/-! ## Resets and the clock -/

theorem test_powerOnReset : base.reports = { records := [⟨0, .restarted .powerOn, true⟩], next := 1, window := 4 } := by
  decide +kernel

theorem test_rstNAssert : resetHeld.held = true ∧ resetHeld.txd = true ∧ resetHeld.reports.records = [] := by
  decide +kernel

theorem test_pinReset :
    (after .pinReset resetHeld).held = false ∧
      (after .pinReset resetHeld).reports.records = [⟨0, .restarted .pin, true⟩] := by decide +kernel

/-- What a step on an empty queue leaves. -/
def idled (s : State) : State :=
  match s.idleStep with
  | .next t => t
  | _ => s

/-- A reference period passes, and then the tick it has made due is taken. -/
theorem test_idle_step :
    ((idled running).clockEvents = [.timebaseTick 1] ∧ (idled running).msPhase = 1) ∧
      ((idled (idled running)).clockEvents = [] ∧ (idled (idled running)).msPhase = 1 ∧
        (idled (idled running)).tbs[1].counter = running.tbs[1].counter + 1) := by decide +kernel

/-- A soft reset puts off a millisecond tick and a sample due at its clock edge. -/
theorem test_soft_reset_restarts_the_counts :
    (after .transmitCompletion { sending (.response .softReset) with msPhase := 32000, samplePhase := 32 }).clockEvents
      = [] := by decide +kernel

/-! ## Events -/

theorem test_millisecondTick :
    (after .millisecondTick (gathering 1 (some 2))).points[0].timer = some 3 ∧
      (after .millisecondTick (gathering 1 (some 3))).points[0].timer = none := by decide +kernel

theorem test_timebaseTick :
    (after (.timebaseTick 1) running).tbs[1].counter = 6 ∧
      (after (.timebaseTick 1) lastTick).tbs[1].counter = 0 := by decide +kernel

theorem test_boundary :
    ((after (.boundary 1) (playing .running [.set 2048, .hold 3] .clear)).chans[0].level,
      (after (.boundary 1) (playing .running [.set 2048, .hold 3] .clear)).chans[0].dutyI,
      (after (.boundary 1) (playing .running [.set 2048, .hold 3] .clear)).chans[0].run.k) = (2048, 512, 1) := by
  decide +kernel

theorem test_pairRiseDelayExpiry :
    (after (.pairRiseDelayExpiry 0) (paired.modPair 0 fun p => { p with riseB := some 2 })).pairs[0].b = true := by
  decide +kernel

theorem test_inputSample :
    (after (.inputSample ⟨#v[false, true], #v[true, false, false, false]⟩)
      (base.modFault 0 fun s => { s with input := some ⟨.activeLow, 4, 3⟩ })).faults[0].latched = true := by
  decide +kernel

theorem test_gatheringTimerExpiry :
    (after (.gatheringTimerExpiry 0) (gathering 1 (some 3))).points[0].generation = 1 ∧
      (after (.gatheringTimerExpiry 0) (gathering 1 (some 2))).points[0].generation = 0 := by decide +kernel

theorem test_speedWindowExpiry :
    (after (.speedWindowExpiry 0) (measuring 2 false false)).units[0].streak = 1 ∧
      (after (.speedWindowExpiry 0) (measuring 3 true false)).units[0].inRange = true := by decide +kernel

theorem test_hostSilenceExpiry :
    (after .hostSilenceExpiry
      (base.modLink fun l => { l with silenceLimit := 10, silenceTimer := some 9 })).faults[2].latched = true := by
  decide +kernel

theorem test_interByteTimeout :
    (after .interByteTimeout (base.modLink fun l => { l with receiver := .length, interByte := some 4 })).link.timeouts
      = 1 := by decide +kernel

theorem test_linkBreak :
    (after .linkBreak (base.modLink fun l => { l with rxd := false, breakCount := 19, rate := .b921600 })).link.rate
      = .b115200 := by decide +kernel

theorem test_characterReceived :
    (after (.characterReceived 0xA5) base).link.receiver = .length ∧
      (after (.characterReceived 199) (receiving .length)).link.framingErrors = 1 := by decide +kernel

theorem test_characterFault : (after .characterFault (receiving .length)).link.receiver = .hunt := by decide +kernel

theorem test_transmitCompletion : quiet.link.tx = .idle ∧ quiet.reports = base.reports := by decide +kernel

theorem test_abortedFrameEnd :
    (after .abortedFrameEnd (base.modLink fun l => { l with tx := .aborted ⟨.report, [0xA5]⟩ .b115200 2780 })).link.tx
      = .idle := by decide +kernel

theorem test_rxdRisingEdge :
    (after .rxdRisingEdge (base.modLink fun l => { l with rxd := false, breakCount := 7 })).link.breakCount = 0 := by
  decide +kernel

theorem test_rxdFallingEdge : (after .rxdFallingEdge base).link.rxChar = some ⟨0, []⟩ := by decide +kernel

/-! ## Requests -/

theorem test_unknownRequestKind : answer (after (.unknownRequestKind 1 0x21 [7]) base) = some (.badType, []) := by
  decide +kernel

theorem test_getInfo :
    answer (after (.getInfo 1 []) base) = some (.ok, [0x54, 0x20, 0x16, 2, 16, 4, 8, 24, 20, 4, 0, 2]) := by
  decide +kernel

theorem test_getStatus :
    answer (after (.getStatus 1 [0]) base) =
      some (.ok, [0, 0, 0, 0, 0x00, 0xC2, 0x01, 0, 0, 0, 0, 0, 0, 0, 0, 0, 0, 0, 4, 1, 1]) := by decide +kernel

theorem test_setLink :
    (after (.setLink 1 [1, 0x00, 0x10, 0x0E, 0, 1, 8, 1, 10, 0]) base).link.pendingRate = some .b921600 ∧
      answer (after (.setLink 1 [1, 0x00, 0x10, 0x0E, 0, 1, 9, 1, 10, 0]) base) = some (.badArg, []) := by
  decide +kernel

theorem test_resetDevice :
    (after .transmitCompletion (after (.resetDevice 1 []) quiet)).reports.records = [⟨0, .restarted .soft, true⟩] := by
  decide +kernel

theorem test_tbConfig :
    (after (.tbConfig 1 [1, 8, 0, 1]) base).tbs[1] = { Timebase.reset with divider := 8, period := 256 } ∧
      answer (after (.tbConfig 1 [1, 3, 0, 1]) base) = some (.badArg, []) := by decide +kernel

theorem test_tbStart :
    (after (.tbStart 1 [2]) (base.modChan 0 fun ch => { ch with tb := 1 })).tbs[1].periodCount = 1 ∧
      answer (after (.tbStart 1 [2]) running) = some (.state, []) := by decide +kernel

theorem test_tbStop : (after (.tbStop 1 [2]) running).tbs[1].state = .halted := by decide +kernel

theorem test_tbPeriod :
    (after (.tbPeriod 7 [1, 32, 0, 0, 1]) running).tbs[1].pendingPeriod = some ⟨32, some 7⟩ ∧
      (after (.tbPeriod 7 [1, 16, 0, 1, 0]) (running.modTb 1 fun tb => { tb with counter := 16 })).tbs[1].stretch
        = true := by decide +kernel

theorem test_tbQuery :
    answer (after (.tbQuery 1 [1]) running) =
      some (.ok, [1, 8, 0, 4, 0, 0, 0, 0, 0, 5, 0, 0, 0, 0, 0, 0, 0]) := by decide +kernel

theorem test_chQuota :
    answer (after (.chQuota 1 (List.replicate 32 0)) (playing .idle [.set 1] .clear)) = some (.quota, []) := by
  decide +kernel

theorem test_segAppend :
    (after (.segAppend 1 [0, 3, 0, 0, 5, 0, 0]) base).chans[0].queue = [.hold 5] ∧
      answer (after (.segAppend 1 [0, 4, 0, 0, 0, 0, 2]) base) = some (.notMember, []) := by decide +kernel

theorem test_segReplace :
    (after (.segReplace 6 [0, 1, 1, 0, 8, 0, 0, 0]) (playing .running [.hold 9] .clear)).chans[0].replacement =
      some ⟨[.set 2048], some 6⟩ ∧
    answer (after (.segReplace 6 [0, 1, 1, 0, 8, 0, 0, 0]) base) = some (.state, []) := by decide +kernel

theorem test_chConfig : (after (.chConfig 1 [0, 3, 1, 1]) base).chans[0].tb = 3 := by decide +kernel

theorem test_chLevel : answer (after (.chLevel 1 [0, 0, 16, 0]) base) = some (.pending, []) := by decide +kernel

theorem test_chStart :
    (after (.chStart 1 [1, 0]) (playing .idle [.hold 1] .clear)).chans[0].state = .armed ∧
      answer (after (.chStart 1 [1, 0]) base) = some (.state, []) := by decide +kernel

theorem test_chPause :
    (after (.chPause 1 [1, 0]) (playing .running [.hold 1] .clear)).chans[0].pendingControl = .pause := by
  decide +kernel

theorem test_chResume :
    (after (.chResume 1 [1, 0]) (playing .paused [.hold 1] .clear)).chans[0].pendingControl = .resume := by
  decide +kernel

theorem test_chFlush : (after (.chFlush 1 [1, 0]) (playing .running [.hold 1] .clear)).chans[0].queue = [] := by
  decide +kernel

theorem test_chQuery :
    (answer (after (.chQuery 1 [0]) base)).map (fun a => (a.1, a.2.length)) = some (.ok, 41) := by decide +kernel

theorem test_rpDefine : (after (.rpDefine 1 [2, 3, 0, 5, 0]) base).points[2] = { Point.reset with members := 3, timeout := 5 } := by
  decide +kernel

theorem test_rpQuery : answer (after (.rpQuery 1 [0]) (gathering 1 (some 3))) = some (.ok, [3, 0, 1, 0, 0, 4, 0, 1, 3, 0]) := by
  decide +kernel

theorem test_pairConfig :
    (after (.pairConfig 1 [0, 1, 3]) running).pairs[0].riseB = some 0 ∧
      (after (.pairConfig 1 [0, 1, 3]) running).chans[1].locked = true := by decide +kernel

theorem test_routeSet : answer (after (.routeSet 1 [23, 1, 15, 19, 3, 0]) base) = some (.ok, [1, 15, 19, 3, 0]) := by
  decide +kernel

theorem test_pinConfig : (after (.pinConfig 1 [19, 1]) base).pinValue 19 = .high := by decide +kernel

theorem test_outQuery :
    (answer (after (.outQuery 1 []) base)).map (fun a => a.2.take 2) = some [0xFF, 2] := by decide +kernel

theorem test_faultConfig :
    (after (.faultConfig 1 [0, 2, 1, 0, 1, 16]) base).faults[0] =
      { action := .stop, chans := 1, input := some ⟨.activeHigh, 16, 0⟩, active := false, latched := false } := by
  decide +kernel

theorem test_faultClear :
    answer (after (.faultClear 1 [0]) (faulty 0 .stop true)) = some (.faultActive, []) ∧
      (after (.faultClear 1 [0]) (faulty 0 .stop false)).faults[0].latched = false := by decide +kernel

theorem test_faultQuery :
    answer (after (.faultQuery 1 [0]) (faulty 0 .stop true)) = some (.ok, [2, 3, 0, 0, 4, 0, 1, 1, 3, 0]) := by
  decide +kernel

theorem test_smConfig :
    (after (.smConfig 1 [0, 1, 2, 1, 0, 3, 0, 9, 0, 1, 0]) base).units[0].state = .firstWindow := by decide +kernel

theorem test_smQuery :
    (answer (after (.smQuery 1 [0]) base)).map (fun a => a.2.length) = some 21 := by decide +kernel

theorem test_rptAck :
    answer (after (.rptAck 1 [0]) base) = some (.ok, [1, 0]) ∧
      answer (after (.rptAck 1 [1]) base) = some (.badArg, []) := by decide +kernel

theorem test_rptResend : answer (after (.rptResend 1 []) base) = some (.ok, [1]) := by decide +kernel

set_option synthInstance.maxSize 100000
set_option synthInstance.maxHeartbeats 1000000

/-! ## For each statement, a state and operands that meet its hypotheses, clause by clause -/

theorem witness_StepTakesTheFrontCommand :
    ({ base with pending := [.getInfo 1 [], .pinReset] } : State).pending = .getInfo 1 [] :: [.pinReset] := rfl

/-- A character on RXD whose stop bit is now to be sampled, with the level of RXD. -/
def stopBit (high : Bool) : State :=
  base.modLink fun l => { l with rxd := high, rxChar := some { age := 2641, bits := false :: List.replicate 8 true } }

/-- The level sampled as the stop bit is that of the event: an edge taken before it comes before the sample, and one taken
after it, where RXD was high, begins the next character. -/
theorem test_edges_around_the_stop_bit :
    (after .rxdFallingEdge (stopBit true)).clockEvents = [.characterFault] ∧
      (after .rxdRisingEdge (stopBit false)).clockEvents = [.characterReceived 255] ∧
      (after .rxdFallingEdge (after (.characterReceived 255) (stopBit true))).link.rxChar = some ⟨0, []⟩ ∧
      (after .rxdRisingEdge (after .characterFault (stopBit false))).link.rxd = true := by decide +kernel

theorem witness_EmptyQueuePassesOneReferencePeriod :
    (quiet.pending = [] ∧ quiet.held = false ∧ quiet.Settled ∧ quiet.clockEvents = []) ∧
      ({ quiet with msPhase := 32000, samplePhase := 32 } : State).clockEvents = [.millisecondTick, .inputSample quiet.inputs] ∧
      ((idled running).Settled ∧ (idled running).clockEvents = [.timebaseTick 1]) ∧
      ((sending .report).Settled ∧ (sending .report).clockEvents = [.transmitCompletion]) ∧
      (base.modLink fun l => { l with tx := .aborted ⟨.report, [0xA5]⟩ .b115200 2780 }).clockEvents = [.abortedFrameEnd] ∧
      ((stopBit true).Settled ∧ (stopBit true).clockEvents = [.characterReceived 255]) ∧
      (stopBit false).clockEvents = [.characterFault] := by
  unfold State.Settled; decide +kernel

theorem witness_HeldPartIgnoresCommands : resetHeld.held = true ∧ resetHeld.link.tx = .idle := by decide +kernel

theorem witness_ReadyPartPerformsAndAnswers :
    base.Ready (RequestKind.getInfo.command 1 []) ∧ quiet.Ready (RequestKind.rptResend.command 1 [1]) ∧
      (perform (requestFrame 1 0x20 [1]) base).1.status = .badLength := by
  unfold State.Ready State.Settled; decide +kernel

theorem witness_WrongLengthAndUnknownKindRefused :
    (lengthOk .segAppend 6 = false ∧ base.Ready (RequestKind.segAppend.command 1 (List.replicate 6 0))) ∧
      (lengthOk .segReplace 104 = false ∧ base.Ready (RequestKind.segReplace.command 1 (List.replicate 104 0))) ∧
      ((0 : Byte).toNat = 0 ∧ base.Ready (.unknownRequestKind 1 0 [])) ∧
      0x20 < (0x21 : Byte).toNat ∧ base.Ready (.unknownRequestKind 1 0x21 []) := by
  unfold State.Ready State.Settled; decide +kernel

/-- The replay memory holding the frame GET_INFO with SEQ 5, which comes again. -/
def replaying : State := after (.getInfo 5 []) quiet

theorem witness_FrameWaitsIsDroppedOrIsReplayed :
    ((full [requestFrame 3 1 []]).held = false ∧ (full [requestFrame 3 1 []]).Settled ∧
      (full [requestFrame 3 1 []]).link.holding.length = 2 ∧ (full [requestFrame 3 1 []]).link.inbound.length < 2) ∧
    ((full (List.replicate 2 (requestFrame 3 1 []))).Settled ∧
      2 ≤ (full (List.replicate 2 (requestFrame 3 1 []))).link.inbound.length) ∧
    (replaying.held = false ∧ replaying.Settled ∧ replaying.link.holding.length < 2 ∧
      ∃ e, replaying.replay = some e ∧ e.seq = 5 ∧ e.crc = (requestFrame 5 1 []).crc) := by
  unfold State.Settled
  refine ⟨by decide +kernel, by decide +kernel, by decide +kernel, by decide +kernel, by decide +kernel,
    (replaying.replay).get (by decide +kernel), ?_⟩
  decide +kernel

theorem witness_GetInfoAnswers : base.Ready (.getInfo 1 []) ∧ base.Ready (.getInfo 1 [0]) := by
  unfold State.Ready State.Settled; decide +kernel

theorem witness_GetStatusAnswers :
    base.Ready (.getStatus 1 [0]) ∧ base.Ready (.getStatus 1 [1]) ∧ base.Ready (.getStatus 1 [2]) := by
  unfold State.Ready State.Settled; decide +kernel

/-- W is above 1 and two records are sent. -/
def twoSent : State := { base with reports := { base.reports with records := base.reports.records ++ [⟨1, .faultCleared 0, true⟩] } }

theorem witness_SetLinkEffect :
    (base.Ready (.setLink 1 [1, 0x00, 0xC2, 0x01, 0, 1, 9, 1, 9, 0])) ∧
      (base.Ready (.setLink 1 [1, 0x00, 0xC2, 0x01, 0, 1, 8, 1, 10, 0])) ∧
      (base.Ready (.setLink 1 [0, 0, 0, 0, 0, 1, 1, 1, 0x10, 0x27]) ∧ base.reports.sentCount ≤ 1) ∧
      (twoSent.Ready (.setLink 1 [0, 0, 0, 0, 0, 1, 1, 0, 0, 0]) ∧ 1 < twoSent.reports.sentCount) ∧
      (base.Ready (.setLink 1 [1, 1, 0, 0, 0, 0, 0, 0, 0, 0]) ∧ u32 [1, 1, 0, 0, 0, 0, 0, 0, 0, 0] 1 ≠ 115200) ∧
      base.Ready (.setLink 1 [2, 0, 0, 0, 0, 0, 0, 0, 0, 0]) ∧
      base.Ready (.setLink 1 [0, 0, 0, 0, 0, 0, 1, 0, 0, 0]) := by
  unfold State.Ready State.Settled; decide +kernel

theorem witness_TbConfigEffect :
    (base.Ready (.tbConfig 1 (le8 3 ++ le8 128 ++ le16 4096)) ∧ base.tbs[3].state = .halted) ∧
      (running.Ready (.tbConfig 1 (le8 1 ++ le8 1 ++ le16 16)) ∧ running.tbs[1].state = .running) ∧
      base.Ready (.tbConfig 1 (le8 4 ++ le8 1 ++ le16 16)) ∧
      base.Ready (.tbConfig 1 (le8 0 ++ le8 1 ++ le16 15)) := by
  unfold State.Ready State.Settled; decide +kernel

theorem witness_TbStartEffect :
    (base.Ready (.tbStart 1 [0]) ∧ base.Ready (.tbStart 1 [16])) ∧
      (base.Ready (.tbStart 1 [tbSetByte [0, 3]]) ∧ ∀ b ∈ [(0 : Fin 4), 3], base.tbs[b].state = .halted) ∧
      (running.Ready (.tbStart 1 [tbSetByte [1]]) ∧ running.tbs[1].state = .running) ∧
      (base.Ready (.tbStart 1 [tbSetByte [0]]) ∧ base.chans[15].tb ∈ [(0 : Fin 4)] ∧ running.chans[0].tb ∉ [(0 : Fin 4)]) := by
  unfold State.Ready State.Settled; decide +kernel

theorem witness_TbStopEffect :
    base.Ready (.tbStop 1 [0]) ∧ base.Ready (.tbStop 1 [16]) ∧ running.Ready (.tbStop 1 [tbSetByte [0, 1]]) ∧
      running.chans[0].tb ∈ [(0 : Fin 4), 1] := by
  unfold State.Ready State.Settled; decide +kernel

theorem witness_TbPeriodEffect :
    base.Ready (.tbPeriod 1 (le8 4 ++ le16 16 ++ le8 0 ++ flagByte true)) ∧
      base.Ready (.tbPeriod 1 (le8 0 ++ le16 4096 ++ le8 1 ++ flagByte true)) ∧
      (running.Ready (.tbPeriod 1 (le8 1 ++ le16 16 ++ le8 0 ++ flagByte true)) ∧
        running.Ready (.tbPeriod 1 (le8 1 ++ le16 16 ++ le8 1 ++ flagByte false)) ∧
        running.tbs[1].state = .running ∧ running.tbs[1].counter < 16) ∧
      (lastTick.Ready (.tbPeriod 1 (le8 1 ++ le16 1023 ++ le8 1 ++ flagByte false)) ∧
        lastTick.tbs[1].state = .running ∧ 1023 ≤ lastTick.tbs[1].counter) := by
  unfold State.Ready State.Settled; decide +kernel

theorem witness_ChQuotaEffect :
    (base.Ready (.chQuota 1 ((List.finRange 16).flatMap fun x => le16 (Vector.replicate 16 32)[x])) ∧
      ((List.finRange 16).map fun x => (Vector.replicate 16 32)[x]).sum = 512) ∧
    (base.Ready (.chQuota 1 ((List.finRange 16).flatMap fun x => le16 (Vector.replicate 16 33)[x])) ∧
      512 < ((List.finRange 16).map fun x => (Vector.replicate 16 33)[x]).sum) ∧
    ((playing .idle [.set 1] .clear).Ready
        (.chQuota 1 ((List.finRange 16).flatMap fun x => le16 (Vector.replicate 16 0)[x])) ∧
      0 < (playing .idle [.set 1] .clear).chans[0].holds) := by
  unfold State.Ready State.Settled; decide +kernel

/-- CH0 locked. -/
def lockedChan : State := base.modChan 0 fun ch => { ch with locked := true }

/-- CH0 with a quota of 0. -/
def noQuota (state : ChState) : State := base.modChan 0 fun ch => { ch with quota := 0, state := state }

theorem witness_SegAppendEffect :
    (lengthOk .segAppend (1 + 6) = true ∧ base.Ready (.segAppend 1 (16 :: (Segment.set 4096).bytes))) ∧
      (lockedChan.Ready (.segAppend 1 (le8 0 ++ [Segment.set 4096].flatMap Segment.bytes)) ∧
        lockedChan.chans[0].locked = true) ∧
      ((noQuota .idle).Ready (.segAppend 1 (le8 0 ++ [Segment.hold 65535].flatMap Segment.bytes)) ∧
        (noQuota .idle).chans[0].quota < (noQuota .idle).chans[0].holds + 1) ∧
      (base.Ready (.segAppend 1 (le8 15 ++ [Segment.sync 7].flatMap Segment.bytes)) ∧
        base.points[7].members.has 15 = false) ∧
      (base.Ready (.segAppend 1 (le8 15 ++ (List.replicate 16 (Segment.ramp 4096 1)).flatMap Segment.bytes)) ∧
        (Segment.ramp 4096 1).valid = true) := by
  unfold State.Ready State.Settled; decide +kernel

/-- No segment has an encoding that begins with kind 0. -/
theorem witness_invalid_segment :
    ¬∃ segs : List Segment, (∀ x ∈ segs, x.valid = true) ∧ [0, 0, 0, 0, 0, 0] = segs.flatMap Segment.bytes := by
  rintro ⟨segs, _, h⟩
  cases segs with
  | nil => simp at h
  | cons g rest => cases g <;> simp [Segment.bytes, le8, le16] at h

theorem witness_SegReplaceEffect :
    (lengthOk .segReplace (2 + 6) = true ∧ base.Ready (.segReplace 1 (16 :: 0 :: (Segment.set 1).bytes)) ∧
        base.Ready (.segReplace 1 (0 :: 2 :: (Segment.set 1).bytes))) ∧
      (lockedChan.Ready (.segReplace 1 (le8 0 ++ flagByte true ++ [Segment.note 255].flatMap Segment.bytes))) ∧
      (base.Ready (.segReplace 1 (le8 0 ++ flagByte true ++ [Segment.set 1].flatMap Segment.bytes)) ∧
        base.chans[0].state = .idle) ∧
      ((noQuota .faulted).Ready (.segReplace 1 (le8 0 ++ flagByte true ++ [Segment.set 1].flatMap Segment.bytes)) ∧
        (noQuota .faulted).chans[0].state = .faulted) ∧
      ((playing .running [.hold 1] .clear).Ready
          (.segReplace 1 (le8 0 ++ flagByte true ++ [Segment.sync 0].flatMap Segment.bytes)) ∧
        (playing .running [.hold 1] .clear).points[0].members.has 0 = false) ∧
      ((playing .running [.hold 1] .clear).Ready
          (.segReplace 1 (le8 0 ++ flagByte false ++ (List.replicate 16 (Segment.set 1)).flatMap Segment.bytes)) ∧
        (playing .running [.hold 1] .clear).chans[0].state = .running) := by
  unfold State.Ready State.Settled; decide +kernel

theorem witness_ChConfigEffect :
    base.Ready (.chConfig 1 (le8 16 ++ le8 0 ++ le8 0 ++ le8 0)) ∧
      base.Ready (.chConfig 1 (le8 15 ++ le8 3 ++ le8 1 ++ le8 1)) ∧
      (lockedChan.Ready (.chConfig 1 (le8 0 ++ le8 0 ++ le8 0 ++ le8 0)) ∧ lockedChan.chans[0].locked = true) ∧
      ((playing .paused [.hold 1] .clear).Ready (.chConfig 1 (le8 0 ++ le8 0 ++ le8 0 ++ le8 0)) ∧
        (playing .paused [.hold 1] .clear).chans[0].state ≠ .idle) ∧
      (paired.Ready (.chConfig 1 (le8 (evenOf 0).val ++ le8 (2 : Fin 4).val ++ le8 (1 : Fin 2).val ++ flagByte true)) ∧
        paired.pairs[0].enabled = true ∧ paired.chans[evenOf 0].locked = false ∧ paired.chans[evenOf 0].state = .idle ∧
        paired.chans[evenOf 0].tb = 1 ∧ paired.tbs[2].state = .halted) ∧
      ((paired.modTb 2 fun tb => { tb with state := .running }).tbs[2].state = .running ∧
        (paired.modTb 2 fun tb => { tb with state := .running }).Ready
          (.chConfig 1 (le8 (evenOf 0).val ++ le8 (2 : Fin 4).val ++ le8 (0 : Fin 2).val ++ flagByte false)) ∧
        (paired.modTb 2 fun tb => { tb with state := .running }).chans[evenOf 0].forced = false) := by
  unfold State.Ready State.Settled; decide +kernel

theorem witness_ChLevelEffect :
    base.Ready (.chLevel 1 (le8 0 ++ le16 4097 ++ le8 0)) ∧ base.Ready (.chLevel 1 (le8 15 ++ le16 4096 ++ le8 1)) ∧
      lockedChan.Ready (.chLevel 1 (le8 0 ++ le16 0 ++ le8 1)) ∧
      (noQuota .faulted).Ready (.chLevel 1 (le8 0 ++ le16 0 ++ le8 1)) := by
  unfold State.Ready State.Settled; decide +kernel

theorem witness_ChStartPauseAndResumeEffect :
    (base.Ready (.chStart 1 (le16 (0 : ChSet).toNat)) ∧ base.Ready (.chPause 1 (le16 (0 : ChSet).toNat)) ∧
        base.Ready (.chResume 1 (le16 (0 : ChSet).toNat))) ∧
      (lockedChan.Ready (.chStart 1 (le16 (1 : ChSet).toNat)) ∧ lockedChan.Ready (.chPause 1 (le16 (1 : ChSet).toNat)) ∧
        lockedChan.Ready (.chResume 1 (le16 (1 : ChSet).toNat)) ∧ (1 : ChSet).has 0 = true) ∧
      (base.Ready (.chStart 1 (le16 (0x8000 : ChSet).toNat)) ∧ base.Ready (.chPause 1 (le16 (0x8000 : ChSet).toNat)) ∧
        base.Ready (.chResume 1 (le16 (0x8000 : ChSet).toNat)) ∧ (0x8000 : ChSet).has 15 = true ∧
        base.chans[15].queue = [] ∧ base.chans[15].state = .idle) ∧
      ((playing .idle [.set 1] .clear).Ready (.chStart 1 (le16 (1 : ChSet).toNat)) ∧
        ∀ x : Fin 16, (1 : ChSet).has x = true → (playing .idle [.set 1] .clear).chans[x].queue ≠ []) ∧
      ((playing .running [.set 1] .clear).Ready (.chPause 1 (le16 (1 : ChSet).toNat)) ∧
        ∀ x : Fin 16, (1 : ChSet).has x = true → (playing .running [.set 1] .clear).chans[x].state = .running) ∧
      ((playing .paused [.set 1] .clear).Ready (.chResume 1 (le16 (1 : ChSet).toNat)) ∧
        ∀ x : Fin 16, (1 : ChSet).has x = true → (playing .paused [.set 1] .clear).chans[x].state = .paused) := by
  unfold State.Ready State.Settled; decide +kernel

/-- CH0 WAITING alone at RP0. -/
def waiting0 : State :=
  (gathering 1 (some 2)).modChan 0 fun ch =>
    { ch with state := .waiting, replacement := some { segments := [.set 1], notify := some 7 } }

theorem witness_ChFlushEffect :
    (waiting0.Ready (.chFlush 1 (le16 (1 : ChSet).toNat)) ∧ (1 : ChSet).has 0 = true ∧
      waiting0.chans[0].waitsAt 0 = true ∧ (after (.chFlush 1 [1, 0]) waiting0).points[0].arrived = 0) ∧
    base.Ready (.chFlush 1 (le16 (0 : ChSet).toNat)) ∧ lockedChan.Ready (.chFlush 1 (le16 (1 : ChSet).toNat)) ∧
      (playing .running [.set 1] .clear).Ready (.chFlush 1 (le16 (0xFFFF : ChSet).toNat)) ∧
      ∀ x : Fin 16, (playing .running [.set 1] .clear).chans[x].locked = false := by
  unfold State.Ready State.Settled; decide +kernel

theorem witness_ChQueryAnswers : base.Ready (.chQuery 1 [15]) ∧ base.Ready (.chQuery 1 [16]) := by
  unfold State.Ready State.Settled; decide +kernel

theorem witness_RpDefineEffect :
    base.Ready (.rpDefine 1 []) ∧ base.Ready (.rpDefine 1 (le8 8 ++ le16 (1 : ChSet).toNat ++ le16 0)) ∧
      base.Ready (.rpDefine 1 (le8 0 ++ le16 (1 : ChSet).toNat ++ le16 60001)) ∧
      (base.Ready (.rpDefine 1 (le8 7 ++ le16 (0xFFFF : ChSet).toNat ++ le16 60000)) ∧ base.points[7].arrived = 0) ∧
      ((gathering 1 none).Ready (.rpDefine 1 (le8 0 ++ le16 (1 : ChSet).toNat ++ le16 0)) ∧
        (gathering 1 none).points[0].arrived ≠ 0) := by
  unfold State.Ready State.Settled; decide +kernel

/-- CH0 and CH1 covered by FLT0, PAIR0 enabled or not. -/
def reachedPair (enabled : Bool) : State :=
  ((faulty 0 .stop false).modPair 0 fun p => { p with enabled := enabled }).modChan 1 fun ch => { ch with locked := enabled }

theorem witness_PairConfigEffect :
    (base.Ready (.pairConfig 1 (le8 8 ++ le8 0 ++ le8 0)) ∧ base.Ready (.pairConfig 1 (le8 0 ++ le8 0 ++ le8 64))) ∧
      ((base.modChan 1 fun ch => { ch with state := .armed }).Ready (.pairConfig 1 (le8 0 ++ le8 1 ++ le8 63)) ∧
        (base.modChan 1 fun ch => { ch with state := .armed }).chans[oddOf 0].state ≠ .idle) ∧
      (base.Ready (.pairConfig 1 (le8 7 ++ le8 1 ++ le8 63)) ∧ base.pairs[7].enabled = false ∧
        base.chans[oddOf 7].lockable = true ∧ ∀ f : Fin 4, base.faults[f].latched = false) ∧
      (paired.Ready (.pairConfig 1 (le8 0 ++ le8 1 ++ le8 0)) ∧ paired.Ready (.pairConfig 1 (le8 0 ++ le8 0 ++ le8 0)) ∧
        paired.pairs[0].enabled = true ∧ ∀ f : Fin 4, paired.faults[f].latched = false) ∧
      base.Ready (.pairConfig 1 (le8 0 ++ le8 0 ++ le8 63)) ∧
      ((reachedPair true).Ready (.pairConfig 1 (le8 (0 : Fin 8).val ++ le8 0 ++ le8 (63 : Fin 64).val)) ∧
        (reachedPair true).pairs[0].enabled = true ∧ (reachedPair true).faults[0].latched = true ∧
        (reachedPair true).faults[0].action = .stop ∧ (reachedPair true).faults[0].chans.has (oddOf 0) = true) ∧
      ((reachedPair false).Ready (.pairConfig 1 (le8 (0 : Fin 8).val ++ le8 1 ++ le8 (0 : Fin 64).val)) ∧
        (reachedPair false).pairs[0].enabled = false ∧ (reachedPair false).chans[oddOf 0].lockable = true ∧
        (reachedPair false).faults[0].latched = true ∧ (reachedPair false).faults[0].action ≠ .none ∧
        (reachedPair false).faults[0].chans.has (evenOf 0) = true) := by
  unfold State.Ready State.Settled; decide +kernel

theorem witness_RouterRequestsEffect :
    base.Ready (.routeSet 1 []) ∧ base.Ready (.pinConfig 1 []) ∧ base.Ready (.outQuery 1 []) ∧
      base.Ready (.routeSet 1 (le8 23 ++ le8 1 ++ le8 15 ++ le8 19 ++ le8 3 ++ le8 1)) ∧
      base.Ready (.routeSet 1 (le8 24 ++ le8 1 ++ le8 15 ++ le8 19 ++ le8 3 ++ le8 1)) ∧
      base.Ready (.pinConfig 1 (le8 19 ++ le8 2)) ∧ base.Ready (.pinConfig 1 (le8 20 ++ le8 3)) := by
  unfold State.Ready State.Settled; decide +kernel

theorem witness_FaultConfigEffect :
    base.Ready (.faultConfig 1 []) ∧
      base.Ready (.faultConfig 1 (le8 1 ++ le8 2 ++ le16 (0xFFFF : ChSet).toNat ++ le8 1 ++ le8 16)) ∧
      base.Ready (.faultConfig 1 (le8 0 ++ le8 2 ++ le16 (0 : ChSet).toNat ++ le8 1 ++ le8 17)) ∧
      base.Ready (.faultConfig 1 (le8 2 ++ le8 1 ++ le16 (1 : ChSet).toNat ++ le8 0 ++ le8 0)) ∧
      ((faulty 0 .stop true).Ready (.faultConfig 1 (le8 0 ++ le8 0 ++ le16 (0 : ChSet).toNat ++ le8 0 ++ le8 1)) ∧
        (faulty 0 .stop true).faults[0].latched = true ∧ base.faults[2].latched = false) := by
  unfold State.Ready State.Settled; decide +kernel

theorem witness_FaultClearEffect :
    base.Ready (.faultClear 1 []) ∧ base.Ready (.faultClear 1 [4]) ∧
      ((faulty 3 .stop true).Ready (.faultClear 1 [3]) ∧ (faulty 3 .stop true).heard.faults[3].active = true) ∧
      (base.Ready (.faultClear 1 [0]) ∧ base.heard.faults[0].active = false ∧ base.heard.faults[0].latched = false) ∧
      ((faulty 0 .stop false).Ready (.faultClear 1 [0]) ∧ (faulty 0 .stop false).heard.faults[0].active = false ∧
        (faulty 0 .stop false).heard.faults[0].latched = true) := by
  unfold State.Ready State.Settled; decide +kernel

theorem witness_SmConfigEffect :
    base.Ready (.smConfig 1 []) ∧
      base.Ready (.smConfig 1 (le8 3 ++ le8 1 ++ le8 2 ++ le16 2000 ++ le16 9 ++ le16 9 ++ le8 15 ++ le8 1)) ∧
      base.Ready (.smConfig 1 (le8 3 ++ le8 1 ++ le8 2 ++ le16 2001 ++ le16 10 ++ le16 9 ++ le8 16 ++ le8 1)) := by
  unfold State.Ready State.Settled; decide +kernel

theorem witness_QueriesGiveTheRecords :
    base.Ready (.faultQuery 1 []) ∧ base.Ready (.smQuery 1 []) ∧ base.Ready (.tbQuery 1 [3]) ∧
      base.Ready (.tbQuery 1 [4]) ∧ base.Ready (.rpQuery 1 [7]) ∧ base.Ready (.rpQuery 1 [8]) ∧
      base.Ready (.faultQuery 1 [3]) ∧ base.Ready (.faultQuery 1 [4]) ∧ base.Ready (.smQuery 1 [3]) ∧
      base.Ready (.smQuery 1 [4]) := by
  unfold State.Ready State.Settled; decide +kernel

theorem witness_RptAckAndRptResendEffect :
    base.Ready (.rptAck 1 []) ∧ base.Ready (.rptResend 1 [0]) ∧ base.Ready (.rptResend 1 []) ∧
      (twoSent.Ready (.rptAck 1 [1]) ∧ twoSent.reports.records =
        [⟨0, .restarted .powerOn, true⟩] ++ ⟨1, .faultCleared 0, true⟩ :: []) ∧
      (base.Ready (.rptAck 1 [1]) ∧ ∀ r ∈ base.reports.records, r.number = 1 → r.sent = false) := by
  unfold State.Ready State.Settled; decide +kernel

theorem witness_MillisecondTickEffect :
    base.held = false ∧ base.Settled ∧ base.msDone = [] ∧ base.dueTimers = [] ∧
      (gathering 1 (some 3)).Settled ∧ (gathering 1 (some 3)).dueTimers = [.gather 0] := by
  unfold State.Settled; decide +kernel

theorem witness_MillisecondTickEffect_no_timer_due (m : MsTimer) : base.due m = false := by
  cases m with
  | gather p => revert p; decide +kernel
  | window u => revert u; decide +kernel
  | silence => decide +kernel
  | interByte => decide +kernel
  | breakDetector => decide +kernel

theorem witness_MillisecondTickEffect_expiry_rows :
    (gathering 1 (some 3)).held = false ∧ (gathering 1 (some 3)).due (.gather 0) = true ∧
      (gathering 1 (some 3)).msDone = [] ∧
      (base.modLink fun l => { l with rxd := false, breakCount := 19 }).due .breakDetector = true ∧
      (base.modLink fun l => { l with interByte := some 4 }).due .interByte = true ∧
      (base.modLink fun l => { l with silenceLimit := 10, silenceTimer := some 9 }).due .silence = true := by
  decide +kernel

theorem witness_TimebaseTickEffect :
    running.held = false ∧ running.Settled ∧ running.tbs[0].state = .halted ∧ running.tbs[1].state = .running ∧
      running.tbs[1].counter + 1 ≠ running.tbs[1].period ∧ lastTick.Settled ∧
      lastTick.tbs[1].counter + 1 = lastTick.tbs[1].period ∧ lastTick.tbs[1].state = .running := by
  unfold State.Settled; decide +kernel

/-- PAIR0 with a rise delay that the next tick ends, its basic signal high or low. -/
def rising (high : Bool) : State :=
  (paired.modChan 0 fun ch => { ch with dutyI := if high then 9 else 4 }).modPair 0 fun p =>
    if high then { p with riseA := some 2 } else { p with riseB := some 2 }

theorem witness_PairEdgesAndRiseDelays :
    ((rising true).held = false ∧ (rising true).Settled ∧ (rising true).pairs[0].enabled = true ∧
      (rising true).tbs[1].state = .running ∧ (rising true).chans[evenOf 0].forced = false ∧
      (rising true).tbs[1].counter + 1 ≠ (rising true).tbs[1].period ∧ (rising true).pairs[0].deadTime ≤ 2 + 1 ∧
      (rising true).pairs[0].riseA = some 2 ∧ 6 < (rising true).chans[evenOf 0].width (rising true).tbs[1].slot) ∧
    ((rising false).Settled ∧ (rising false).pairs[0].riseA = none ∧ (rising false).pairs[0].riseB = some 2 ∧
      (rising false).chans[evenOf 0].width (rising false).tbs[1].slot ≤ 6) ∧
    ((paired.modPair 0 fun p => { p with riseA := some 0 }).Settled ∧ paired.pairs[0].deadTime = 3) ∧
    (base.Settled ∧ base.pairs[0].riseA = none ∧ base.pairs[0].riseB = none ∧ base.pairs[0].deadTime = 0 ∧
      paired.pairs[0].deadTime ≠ 0) := by
  unfold State.Settled; decide +kernel

theorem witness_BoundaryEffect :
    (lastTick.held = false ∧ lastTick.Settled ∧ lastTick.tbs[1].state = .running ∧
      lastTick.tbs[1].counter + 1 = lastTick.tbs[1].period ∧ lastTick.chans[0].tb = 1 ∧ lastTick.chans[1].tb ≠ 1) ∧
    (base.held = false ∧ base.Settled ∧ base.tbs[0].state = .halted) ∧
    (running.held = false ∧ running.Settled ∧ running.tbs[1].counter + 1 ≠ running.tbs[1].period) := by
  unfold State.Settled; decide +kernel

theorem witness_PendingLevelListDutyAndForcedFlag :
    (base.chans[0].pendingLevel = none ∧ base.chans[0].replacement = none ∧ base.chans[0].forced = false) ∧
      (base.modChan 0 fun ch => { ch with pendingLevel := some ⟨4096, some 1⟩ }).chans[0].pendingLevel
        = some ⟨4096, some 1⟩ ∧
      (waiting0.chans[0].replacement = some ⟨[.set 1], some 7⟩ ∧ waiting0.chans[0].waitsAt 0 = true) ∧
      ((faulty 0 .stop true).faults[0].latched = true ∧ (faulty 0 .stop true).faults[0].action ≠ .none ∧
        (faulty 0 .stop true).faults[0].chans.has 0 = true) ∧
      ((base.modChan 0 fun ch => { ch with forced := true }).chans[0].forced = true ∧
        ∀ f : Fin 4, base.faults[f].latched = false) := by decide +kernel

theorem witness_ProgramAdvance :
    base.chans[0].state ≠ .running ∧
      ((playing .running [.hold 3] ⟨2, 0, false⟩).chans[0].queue = .hold 3 :: [] ∧
        (playing .running [.hold 3] ⟨2, 0, false⟩).chans[0].state = .running ∧
        (playing .running [.hold 3] ⟨2, 0, false⟩).chans[0].run.k < 3) ∧
      ((playing .running [.ramp 4096 2] ⟨1, 0, false⟩).chans[0].queue = .ramp 4096 2 :: [] ∧
        1 ≤ (playing .running [.ramp 4096 2] ⟨1, 0, false⟩).chans[0].run.k) ∧
      ((playing .running [.sync 0] ⟨0, 0, true⟩).chans[0].run.released = true ∧
        (playing .running [.sync 0] ⟨0, 0, true⟩).chans[0].stamp =
          (playing .running [.sync 0] ⟨0, 0, true⟩).tbs[1].periodCount) ∧
      ((playing .running [.hold 3] ⟨3, 0, false⟩).chans[0].run.k = 3) ∧
      (playing .running [] .clear).chans[0].queue = [] ∧
      (gathering 0 none).points[0].members.has 0 = true ∧
      (playing .running [.sync 0] .clear).points[0].members.has 0 = false ∧
      (playing .running [.set 4096, .note 255] .clear).chans[0].mode = .oneShot := by decide +kernel

theorem witness_ArrivalReleaseAndExpiry :
    (gathering 0 none).points[0].arrived.add 0 ≠ (gathering 0 none).points[0].members ∧
      (gathering 2 (some 0)).points[0].arrived.add 0 = (gathering 2 (some 0)).points[0].members ∧
      ((gathering 1 (some 3)).held = false ∧ (gathering 1 (some 3)).Settled ∧
        (gathering 1 (some 3)).points[0].timer = some 3 ∧ (gathering 1 (some 3)).points[0].timeout ≤ 3 + 1 ∧
        MsTimer.gather 0 ∉ (gathering 1 (some 3)).msDone) ∧
      (gathering 1 none).points[0].timer = none := by
  unfold State.Settled; decide +kernel

theorem witness_SpeedWindowExpiryEffect :
    ((measuring 2 false false).held = false ∧ (measuring 2 false false).Settled ∧
      (measuring 2 false false).units[0].timer = some 0 ∧ (measuring 2 false false).units[0].window ≤ 0 + 1 ∧
      MsTimer.window 0 ∉ (measuring 2 false false).msDone ∧
      (measuring 2 false false).faults[speed].active = (measuring 2 false false).anyAsserting ∧
      (measuring 2 false false).units[0].state = .measuring ∧
      (measuring 2 false false).units[0].edges < (measuring 2 false false).units[0].minCount ∧
      (measuring 2 false false).units[0].linked = false ∧
      (measuring 2 false false).units[0].limitReported = false) ∧
    ((measuring 9 true true).Settled ∧ (measuring 9 true true).units[0].limitReported = true ∧
      ¬(measuring 9 true true).units[0].maxCount < (measuring 9 true true).units[0].edges ∧
      (measuring 9 true true).faults[speed].active = (measuring 9 true true).anyAsserting) ∧
    (measuring 10 false false).units[0].maxCount < (measuring 10 false false).units[0].edges ∧
    ((measuring 2 false true).anyAsserting = false ∧ (measuring 2 true true).faults[speed].latched = false ∧
      ((measuring 2 true true).expireWindow 0).anyAsserting = true) := by
  unfold State.Settled; decide +kernel

/-- Both link timers at their last tick. -/
def lateLink : State :=
  base.modLink fun l =>
    { l with receiver := .length, interByte := some 4, silenceLimit := 10, silenceTimer := some 9 }

theorem witness_LinkTimerExpiries :
    lateLink.held = false ∧ lateLink.Settled ∧ lateLink.link.interByte = some 4 ∧ lateLink.msDone = [] ∧
      lateLink.link.silenceTimer = some 9 ∧ lateLink.link.silenceLimit ≤ 9 + 1 ∧
      base.Settled ∧ base.link.interByte = none ∧ base.link.silenceTimer = none := by
  unfold State.Settled; decide +kernel

/-- FLT0, and FLT1 too or not, one active sample short of the filter. -/
def nearlyActive (both : Bool) : State :=
  (base.modFault 0 fun s => { s with input := some ⟨.activeLow, 4, 3⟩ }).modFault 1 fun s =>
    { s with input := some ⟨.activeHigh, 1, 0⟩, active := !both }

theorem witness_InputSampleEffect :
    base.held = false ∧ base.Settled ∧ base.faults[0].becomesActive false = false ∧
      base.faults[1].becomesActive false = false ∧
      ((nearlyActive false).Settled ∧ (nearlyActive false).faults[0].becomesActive false = true ∧
        (nearlyActive false).faults[1].becomesActive true = false) ∧
      ((nearlyActive true).Settled ∧ (nearlyActive true).faults[0].becomesActive false = true ∧
        (nearlyActive true).faults[0].becomesActive true = false ∧
        (nearlyActive true).faults[1].becomesActive true = true) := by
  unfold State.Settled; decide +kernel

/-- A unit in its first window whose input was low at the sample before, with its edge counter at the limit. -/
def sampledLow (e : Edge) : SpeedUnit :=
  { SpeedUnit.reset with state := .firstWindow, edge := e, previous := some false, edges := 65535 }

theorem witness_InputSampleEffect_units :
    base.units[0].state = .off ∧
      (({ sampledLow .both with previous := none } : SpeedUnit).state ≠ .off) ∧
      ((sampledLow .rising).state ≠ .off ∧ (sampledLow .rising).previous = some (!true) ∧
        (sampledLow .rising).edge = .rising ∧ ((sampledLow .rising).sample true).edges = 65535) ∧
      ((sampledLow .falling).previous = some (!true) ∧ (sampledLow .falling).edge = .falling) ∧
      (sampledLow .both).edge = .both ∧ (sampledLow .both).previous = some false := by decide +kernel

theorem witness_ActivationLatchesAndActs :
    (faulty 0 .stop true).faults[0].latched = true ∧ base.faults[0].latched = false ∧
      ((waiting0.modFault 0 fun src => { src with action := .stop, chans := 1 }).faults[0].latched = false ∧
        (waiting0.modFault 0 fun src => { src with action := .stop, chans := 1 }).chans[0].waitsAt 0 = true) := by
  decide +kernel

theorem witness_ResetEffects :
    base.Ready (.resetDevice 1 []) ∧
      (sending (.response .softReset)).link.tx =
        .sending { kind := .response .softReset, bytes := [0xA5] } .b115200 2780 := by
  unfold State.Ready State.Settled; decide +kernel

theorem witness_ReceiverAndLineEvents :
    base.held = false ∧ base.Settled ∧ base.link.receiver = .hunt ∧
      (receiving .length).Settled ∧ (receiving .length).link.receiver = .length ∧
      (receiving (.body 2 [1])).link.receiver = .body 2 [1] ∧
      (receiving (.check 2 [1, 1] none)).link.receiver = .check 2 [1, 1] none ∧
      (receiving (.check 2 [1, 1] (some 0))).link.receiver = .check 2 [1, 1] (some 0) ∧
      crc16 [2, 1, 1] ≠ (0 : Byte) ++ (0 : Byte) := by
  unfold State.Settled; decide +kernel

theorem witness_ReceivedFrameIsTheRequest :
    payloadFits (List.replicate 196 0) = true ∧ base.held = false ∧ base.Settled ∧ base.link.receiver = .hunt ∧
      base.link.rxd = true ∧ base.link.rxChar = none := by
  unfold State.Settled; decide +kernel

/-- The byte 0xA5 on TXD at an age. -/
def onLine (age : Nat) : State :=
  base.modLink fun l => { l with tx := .sending { kind := .report, bytes := [0xA5] } .b115200 age }

theorem test_txd : ((List.range 11).map fun i => (onLine (278 * i)).txd) =
    [false, true, false, true, false, false, true, false, true, true, true] := by decide +kernel

theorem witness_FrameEnds_line :
    ([(0xA5 : Byte)][2779 / (10 * Rate.bitTime .b115200)]? = some 0xA5 ∧
      2779 % (10 * Rate.bitTime .b115200) / Rate.bitTime .b115200 = 9) ∧
      2501 % (10 * Rate.bitTime .b115200) / Rate.bitTime .b115200 = 8 ∧
      278 % (10 * Rate.bitTime .b115200) / Rate.bitTime .b115200 = 1 ∧
      277 % (10 * Rate.bitTime .b115200) / Rate.bitTime .b115200 = 0 ∧
      [(0xA5 : Byte)].length ≤ 2780 / (10 * Rate.bitTime .b115200) := by decide +kernel

theorem witness_FrameEnds :
    (sending .report).link.tx = .sending { kind := .report, bytes := [0xA5] } .b115200 2780 ∧
      (sending (.response .none)).link.tx = .sending { kind := .response .none, bytes := [0xA5] } .b115200 2780 ∧
      ((sending (.response .rate)).modLink fun l => { l with pendingRate := some .b921600 }).link.tx =
        .sending { kind := .response .rate, bytes := [0xA5] } .b115200 2780 ∧
      (base.modLink fun l => { l with tx := .aborted ⟨.report, [0xA5]⟩ .b115200 0 }).link.tx =
        .aborted { kind := .report, bytes := [0xA5] } .b115200 0 ∧
      (sending (.response .rate)).link.pendingRate = none ∧
      ((sending (.response .rate)).modLink fun l => { l with pendingRate := some .b115200 }).link.rate = .b115200 ∧
      quiet.link.tx = .idle := by decide +kernel

/-- The transmitter IDLE and the holding queue full, GET_INFO with SEQ 1 answered last. -/
def answered (waiting : List Frame) : State :=
  { (full waiting).modLink fun l => { l with tx := .idle } with
    replay := some ⟨1, (requestFrame 1 1 []).crc, held0⟩ }

theorem witness_ArbiterChoice :
    (base.link.inbound = [] ∧ base.link.tx ≠ .idle) ∧
      (quiet.modLink fun l => { l with holding := [held0] }).link.holding = held0 :: [] ∧
      (State.reset.link.inbound = [] ∧ State.reset.link.tx = .idle ∧ State.reset.link.holding = [] ∧
        State.reset.reports.sentCount < State.reset.reports.window ∧
        State.reset.reports.records = [] ++ ⟨0, .restarted .powerOn, false⟩ :: []) ∧
      (quiet.link.inbound = [] ∧ quiet.link.tx = .idle ∧ quiet.link.holding = [] ∧ quiet.reportEligible = false) ∧
      ((full [requestFrame 1 1 []]).link.inbound = requestFrame 1 1 [] :: [] ∧
        (full [requestFrame 1 1 []]).link.holding = [held0, held0] ∧ (full [requestFrame 1 1 []]).link.tx ≠ .idle ∧
        (full [requestFrame 1 1 []]).replay = none ∧
        ((full [requestFrame 1 1 []]).modLink fun l => { l with tx := .idle }).link.holding = [held0, held0]) ∧
      ((answered [requestFrame 1 1 []]).replay = some ⟨1, (requestFrame 1 1 []).crc, held0⟩ ∧
        (answered [requestFrame 1 1 []]).link.tx = .idle) := by
  decide +kernel

/-- RXD has been low for nineteen millisecond ticks. -/
def lowLine : State := base.modLink fun l => { l with rxd := false, breakCount := 19 }

theorem witness_LinkBreakEffect :
    lowLine.held = false ∧ lowLine.Settled ∧ lowLine.link.rxd = false ∧ lowLine.link.breakCount = 19 ∧
      MsTimer.breakDetector ∉ lowLine.msDone ∧ base.link.rxd = true := by
  unfold State.Settled; decide +kernel

theorem witness_DutyIsSpreadOverSixteenSlots : ({ Channel.reset with level := 4096 } : Channel).level ≤ 4096 := by
  decide +kernel

/-- E0 and E1 carry CH0 to OUT0. -/
def routed : State := { running with routes := Vector.ofFn fun e =>
  if e.val < 2 then { enabled := true, source := 0, pin := 0, priority := 1, invert := true } else .reset }

theorem witness_PinWinnerAndValue :
    routed.winner 0 = some 0 ∧ routed.winner 1 = none ∧ paired.pairs[pairOf 1].enabled = true ∧
      (base.modChan 0 fun ch => { ch with forced := true }).chans[0].forced = true ∧
      base.tbs[base.chans[0].tb].state = .halted ∧ running.tbs[running.chans[0].tb].state = .running := by
  decide +kernel

theorem witness_ReportEntry :
    (queueOf 30 (.faultCleared 0)).records.length ≤ 30 ∧
      (queueOf 31 (.overflow 65535)).records =
        (List.replicate 30 ⟨0, .faultCleared 0, false⟩) ++ [⟨0, .overflow 65535, false⟩] ∧
      (queueOf 31 (.faultCleared 0)).records =
        (List.replicate 30 ⟨0, .faultCleared 0, false⟩) ++ [⟨0, .faultCleared 0, false⟩] := by decide +kernel

/-- The invariants hold of the reset state (the statement `ResetMeetsTheInvariants`), and it steps: the invariants'
hypotheses are met together there. -/
theorem witness_reset_steps : ∃ t, step { State.reset with pending := [.millisecondTick] } = .next t :=
  ⟨_, rfl⟩

theorem witness_StepKeepsThePool :
    State.reset.free + State.reset.recordsHeld = Config.poolSize ∧
      (∀ c : Fin 16, State.reset.chans[c].holds ≤ State.reset.chans[c].quota) ∧
      ((List.finRange 16).map fun c => State.reset.chans[c].quota).sum ≤ Config.poolSize := by decide +kernel

theorem witness_StepKeepsTheRanges : State.reset.TimebasesInv ∧ State.reset.RendezvousInv := by
  unfold State.TimebasesInv Timebase.Inv State.RendezvousInv; decide +kernel

theorem witness_StepKeepsTheRendezvous : State.reset.RendezvousInv := by
  unfold State.RendezvousInv; decide +kernel

theorem witness_StepKeepsThePairs : State.reset.PairsInv ∧ State.reset.PairsHeldLow := by
  unfold State.PairsInv State.PairsHeldLow Pair.Inv; decide +kernel

theorem witness_StepKeepsTheCoverage : State.reset.CoverageInv := by
  unfold State.CoverageInv State.LockInv; decide +kernel

theorem witness_StepKeepsTheFaultSources : State.reset.FaultInv := by
  unfold State.FaultInv; decide +kernel

theorem witness_StepKeepsTheReportQueue : State.reset.reports.Inv := by
  unfold ReportQueue.Inv; decide +kernel

theorem witness_StepKeepsTheLink : State.reset.link.Inv := by
  simp [Link.Inv, Receiver.Inv, State.reset, Link.reset]

theorem witness_StepLeavesNothingEligible : base.Settled ∧ quiet.Settled := by
  unfold State.Settled; decide +kernel

end Sys2Proof.Machine.Tests
end

namespace Sys2Proof.Machine

/-! # Facts about the operations that more than one part below uses -/

/-! ## Channel sets -/

@[simp] theorem ChSet.has_zero (c : Fin 16) : ChSet.has 0#16 c = false := by
  simp [ChSet.has]

@[simp] theorem ChSet.has_add (m : ChSet) (c x : Fin 16) :
    (m.add c).has x = (m.has x || decide (x = c)) := by
  simp only [ChSet.has, ChSet.add, BitVec.getLsbD_or, BitVec.getLsbD_shiftLeft, BitVec.getLsbD_one]
  congr 1
  have hx := x.isLt
  rw [Bool.eq_iff_iff]
  simp only [Bool.and_eq_true, decide_eq_true_eq, Bool.not_eq_true', decide_eq_false_iff_not, Fin.ext_iff]
  omega

@[simp] theorem ChSet.has_drop (m : ChSet) (c x : Fin 16) :
    (m.drop c).has x = (m.has x && decide (x ≠ c)) := by
  simp only [ChSet.has, ChSet.drop, BitVec.getLsbD_and, BitVec.getLsbD_not, BitVec.getLsbD_shiftLeft,
    BitVec.getLsbD_one]
  congr 1
  have hx := x.isLt
  rw [Bool.eq_iff_iff]
  simp only [Bool.and_eq_true, Bool.not_eq_true', Bool.and_eq_false_iff, decide_eq_true_eq, decide_eq_false_iff_not,
    Bool.not_eq_false', Fin.ext_iff, ne_eq]
  omega

/-! ## The arbiter -/

/-- The arbiter's choice changes the link and the report queue alone. -/
theorem State.arbitrate_frame (s : State) : ∃ l q, s.arbitrate = { s with link := l, reports := q } := by
  unfold State.arbitrate State.sendReport
  split
  · split
    · exact ⟨_, _, rfl⟩
    · split
      · split
        · exact ⟨_, _, rfl⟩
        · exact ⟨_, _, rfl⟩
      · exact ⟨_, _, rfl⟩
  · exact ⟨_, _, rfl⟩

/-! # O51: the ranges

An event releases and starts channels one after another, so what a step keeps is stronger than the ranges: an arrived
channel waits with a SYNC at its head (half of Law 3), so a release never marks an empty queue. -/

/-- The ranges, and every arrived channel waits at its point. Every operation, not only every step, keeps it. -/
structure State.InRange (s : State) : Prop where
  tb : ∀ b : Fin 4, s.tbs[b].Inv
  chan : ∀ c : Fin 16, s.chans[c].RangeInv
  waits : ∀ (p : Fin 8) (c : Fin 16), s.points[p].arrived.has c = true → s.chans[c].waitsAt p = true

theorem State.inRange_of_inv {s : State} (hz : s.RendezvousInv) (hr : s.RangesInv) : s.InRange where
  tb := hr.1
  chan := hr.2
  waits p c h := (hz.2.1 p c).symm.trans h

theorem State.InRange.rangesInv {s : State} (h : s.InRange) : s.RangesInv := ⟨h.tb, h.chan⟩

/-- The channel has arrived at no point. -/
def State.NotArrived (s : State) (c : Fin 16) : Prop := ∀ p : Fin 8, s.points[p].arrived.has c = false

/-! ## What the ranges of a channel allow -/

theorem Channel.waitsAt_iff (ch : Channel) (p : Fin 8) :
    ch.waitsAt p = true ↔ ch.state = .waiting ∧ ch.queue.head? = some (.sync p) := by
  simp [Channel.waitsAt]

theorem Channel.RangeInv.queue_valid {ch : Channel} (h : ch.RangeInv) : ∀ seg ∈ ch.queue, seg.valid = true := by
  obtain ⟨_, _, _, _, hqueue, _⟩ := h
  exact hqueue

theorem Channel.RangeInv.replacement_valid {ch : Channel} (h : ch.RangeInv) :
    ∀ r ∈ ch.replacement, ∀ seg ∈ r.segments, seg.valid = true := by
  obtain ⟨_, _, _, _, _, hreplacement, _⟩ := h
  exact hreplacement

theorem Timebase.Inv.period_le {tb : Timebase} (h : tb.Inv) : tb.period ≤ 4096 := by
  obtain ⟨_, _, hle, _⟩ := h
  exact hle

theorem Channel.RangeInv.setLevel {ch : Channel} (h : ch.RangeInv) {l : Nat} (hl : l ≤ 4096) :
    Channel.RangeInv { ch with level := l } := ⟨hl, h.2⟩

/-- A queue of valid segments whose head is not started. -/
theorem Channel.RangeInv.requeue {ch : Channel} (h : ch.RangeInv) {q : List Segment}
    (hq : ∀ seg ∈ q, seg.valid = true) : Channel.RangeInv { ch with queue := q, run := .clear } := by
  obtain ⟨hl, hi, hf, hp, _, hr, _, _, _⟩ := h
  exact ⟨hl, hi, hf, hp, hq, hr, Nat.zero_le _, fun _ _ _ => Nat.zero_le _, fun _ => rfl⟩

theorem Channel.RangeInv.dropReplacement {ch : Channel} (h : ch.RangeInv) :
    Channel.RangeInv { ch with replacement := none } := by
  obtain ⟨hl, hi, hf, hp, hq, _, hs, hk, he⟩ := h
  exact ⟨hl, hi, hf, hp, hq, fun _ hr => (by cases hr), hs, hk, he⟩

theorem Channel.RangeInv.setReplacement {ch : Channel} (h : ch.RangeInv) {segs : List Segment} {n : Option Byte}
    (hv : ∀ seg ∈ segs, seg.valid = true) :
    Channel.RangeInv { ch with replacement := some { segments := segs, notify := n } } := by
  obtain ⟨hl, hi, hf, hp, hq, _, hs, hk, he⟩ := h
  exact ⟨hl, hi, hf, hp, hq, fun _ hr => (by cases hr; exact hv), hs, hk, he⟩

theorem Channel.RangeInv.setPendingLevel {ch : Channel} (h : ch.RangeInv) {p : PendingLevel} (hp : p.level ≤ 4096) :
    Channel.RangeInv { ch with pendingLevel := some p } := by
  obtain ⟨hl, hi, hf, _, hrest⟩ := h
  exact ⟨hl, hi, hf, fun _ hq => (by cases hq; exact hp), hrest⟩

/-- Segments at the tail: the head, where there is one, stays with its runtime fields (R28). -/
theorem Channel.RangeInv.append {ch : Channel} (h : ch.RangeInv) {segs : List Segment}
    (hv : ∀ seg ∈ segs, seg.valid = true) : Channel.RangeInv { ch with queue := ch.queue ++ segs } := by
  obtain ⟨hl, hi, hf, hp, hq, hr, hs, hk, he⟩ := h
  refine ⟨hl, hi, hf, hp, ?_, hr, hs, ?_, ?_⟩
  · intro seg hm
    rcases List.mem_append.mp hm with hm | hm
    · exact hq seg hm
    · exact hv seg hm
  · intro target n hh
    by_cases hnil : ch.queue = []
    · simp [he hnil, HeadRun.clear]
    · rw [List.head?_append_of_ne_nil _ hnil] at hh
      exact hk target n hh
  · intro hnil
    exact he (List.append_eq_nil_iff.mp hnil).1

theorem Channel.waitsAt_append {ch : Channel} {p : Fin 8} (segs : List Segment) (h : ch.waitsAt p = true) :
    Channel.waitsAt { ch with queue := ch.queue ++ segs } p = true := by
  rw [Channel.waitsAt_iff] at h ⊢
  exact ⟨h.1, by simp [h.2]⟩

/-- A release touches the head's mark alone, so it needs a head (R49). -/
theorem Channel.RangeInv.release {ch : Channel} (h : ch.RangeInv) (hq : ch.queue ≠ []) (n : BitVec 32) :
    (ch.release n).RangeInv := by
  obtain ⟨hl, hi, hf, hp, hv, hr, hs, hk, _⟩ := h
  exact ⟨hl, hi, hf, hp, hv, hr, hs, hk, fun he => absurd he hq⟩

/-- A ramp stays between its ends (R47). -/
theorem rampLevel_le {start target periods k m : Nat} (hs : start ≤ m) (ht : target ≤ m) (hk : k ≤ periods) :
    rampLevel start target periods k ≤ m := by
  unfold rampLevel
  split
  · have : (target - start) * k / periods ≤ target - start :=
      Nat.div_le_of_le_mul (by rw [Nat.mul_comm periods]; exact Nat.mul_le_mul_left _ hk)
    omega
  · exact (Nat.sub_le _ _).trans hs

theorem Channel.RangeInv.startHold {ch : Channel} (h : ch.RangeInv) {n : Nat} {rest : List Segment}
    (hq : ch.queue = .hold n :: rest) : Channel.RangeInv { ch with run := { ch.run with k := 1 } } := by
  obtain ⟨hl, hi, hf, hp, hv, hr, hs, _, _⟩ := h
  exact ⟨hl, hi, hf, hp, hv, hr, hs, by simp [hq], by simp [hq]⟩

theorem Channel.RangeInv.startRamp {ch : Channel} (h : ch.RangeInv) {target n : Nat} {rest : List Segment}
    (hq : ch.queue = .ramp target n :: rest) :
    Channel.RangeInv { ch with
      run := { ch.run with k := 1, start := ch.level }, level := rampLevel ch.level target n 1 } := by
  obtain ⟨hl, hi, hf, hp, hv, hr, _, _, _⟩ := h
  have hseg : Segment.valid (.ramp target n) = true := hv _ (by simp [hq])
  obtain ⟨⟨ht, hn⟩, _⟩ : (target ≤ 4096 ∧ 1 ≤ n) ∧ n ≤ 65535 := by simpa [Segment.valid] using hseg
  refine ⟨rampLevel_le hl ht hn, hi, hf, hp, hv, hr, hl, ?_, by simp [hq]⟩
  simpa [hq] using hn

theorem Channel.headStep_nextPeriod {ch : Channel} {count : BitVec 32} (h : ch.headStep count = .nextPeriod) :
    (∃ target n rest, ch.queue = .ramp target n :: rest ∧ ch.run.k < n) ∨
      ∃ n rest, ch.queue = .hold n :: rest ∧ ch.run.k < n := by
  unfold Channel.headStep at h
  split at h
  · next target n rest hq =>
    refine .inl ⟨target, n, rest, hq, ?_⟩
    by_contra hlt
    split at h <;> simp at h
  · next n rest hq =>
    refine .inr ⟨n, rest, hq, ?_⟩
    by_contra hlt
    split at h <;> simp at h
  · split at h
    · split at h <;> cases h
    · cases h
  · cases h

theorem Channel.RangeInv.nextPeriod {ch : Channel} (h : ch.RangeInv) {count : BitVec 32}
    (hstep : ch.headStep count = .nextPeriod) : ch.nextPeriod.RangeInv := by
  obtain ⟨hl, hi, hf, hp, hv, hr, hs, _, _⟩ := h
  rcases Channel.headStep_nextPeriod hstep with ⟨target, n, rest, hq, hlt⟩ | ⟨n, rest, hq, hlt⟩
  · have hseg : Segment.valid (.ramp target n) = true := hv _ (by simp [hq])
    obtain ⟨⟨ht, _⟩, _⟩ : (target ≤ 4096 ∧ 1 ≤ n) ∧ n ≤ 65535 := by simpa [Segment.valid] using hseg
    refine ⟨?_, hi, hf, hp, hv, hr, hs, ?_, by simp [Channel.nextPeriod, hq]⟩
    · simpa [Channel.nextPeriod, hq] using rampLevel_le hs ht hlt
    · simpa [Channel.nextPeriod, hq] using hlt
  · refine ⟨?_, hi, hf, hp, hv, hr, hs, by simp [Channel.nextPeriod, hq], by simp [Channel.nextPeriod, hq]⟩
    simpa [Channel.nextPeriod, hq] using hl

theorem Channel.RangeInv.latch {ch : Channel} (h : ch.RangeInv) {period : Nat} (hp : period ≤ 4096) :
    (ch.latch period).RangeInv := by
  obtain ⟨hl, _, _, hrest⟩ := h
  have hq : ch.level * period / 256 ≤ 4096 * 4096 / 256 := Nat.div_le_div_right (Nat.mul_le_mul hl hp)
  refine ⟨hl, ?_, ?_, hrest⟩
  · simp only [Channel.latch, dutySixteenths]; omega
  · simp only [Channel.latch]; omega

/-! ## One rule for each kind of update -/

/-- Only the timebases, the channels and the points count. -/
theorem State.InRange.congr {s t : State} (h : s.InRange) (ht : t.tbs = s.tbs) (hc : t.chans = s.chans)
    (hp : t.points = s.points) : t.InRange where
  tb := by rw [ht]; exact h.tb
  chan := by rw [hc]; exact h.chan
  waits := by rw [hc, hp]; exact h.waits

theorem State.InRange.mapTbs {s : State} (h : s.InRange) {f : Fin 4 → Timebase → Timebase}
    (hf : ∀ b, (f b s.tbs[b]).Inv) : (s.mapTbs f).InRange where
  tb b := by rw [State.mapTbs_get]; exact hf b
  chan := h.chan
  waits := h.waits

theorem State.InRange.modTb {s : State} (h : s.InRange) {b : Fin 4} {f : Timebase → Timebase}
    (hf : (f s.tbs[b]).Inv) : (s.modTb b f).InRange where
  tb j := by
    rw [State.modTb_get]
    split
    · exact hf
    · exact h.tb j
  chan := h.chan
  waits := h.waits

/-- Channels change: each stays in range, and an arrived one waits on. -/
theorem State.InRange.mapChans {s : State} (h : s.InRange) {f : Fin 16 → Channel → Channel}
    (hr : ∀ c, (f c s.chans[c]).RangeInv)
    (hw : ∀ c p, s.chans[c].waitsAt p = true → (f c s.chans[c]).waitsAt p = true) : (s.mapChans f).InRange where
  tb := h.tb
  chan c := by rw [State.mapChans_get]; exact hr c
  waits p c ha := by rw [State.mapChans_get]; exact hw c p (h.waits p c ha)

theorem State.InRange.modChan {s : State} (h : s.InRange) {c : Fin 16} {f : Channel → Channel}
    (hr : (f s.chans[c]).RangeInv)
    (hw : ∀ p, s.points[p].arrived.has c = true → (f s.chans[c]).waitsAt p = true) : (s.modChan c f).InRange where
  tb := h.tb
  chan j := by
    rw [State.modChan_get]
    split
    · exact hr
    · exact h.chan j
  waits p j ha := by
    rw [State.modChan_get]
    split
    · next hj => subst hj; exact hw p ha
    · exact h.waits p j ha

/-- A channel that has arrived nowhere may change its state and its head. -/
theorem State.InRange.modNotArrived {s : State} (h : s.InRange) {c : Fin 16} (hn : s.NotArrived c)
    {f : Channel → Channel} (hr : (f s.chans[c]).RangeInv) : (s.modChan c f).InRange :=
  h.modChan hr fun p ha => absurd ((hn p).symm.trans ha) (by decide)

theorem State.InRange.modPoint {s : State} (h : s.InRange) {p : Fin 8} {f : Point → Point}
    (hf : ∀ c, (f s.points[p]).arrived.has c = true → s.chans[c].waitsAt p = true) : (s.modPoint p f).InRange where
  tb := h.tb
  chan := h.chan
  waits q c ha := by
    rw [State.modPoint_get] at ha
    split at ha
    · next hq => subst hq; exact hf c ha
    · exact h.waits q c ha

theorem State.InRange.offer {s : State} (h : s.InRange) (r : Report) : (s.offer r).InRange := h.congr rfl rfl rfl

theorem State.InRange.offerIf {s : State} (h : s.InRange) (n : Option Byte) (r : Byte → Report) :
    (s.offerIf n r).InRange := h.congr (by simp) (by simp) (by simp)

theorem State.InRange.notArrived_of_state {s : State} (h : s.InRange) {c : Fin 16}
    (hc : s.chans[c].state ≠ .waiting) :
    s.NotArrived c := by
  intro p
  by_contra ha
  exact hc ((Channel.waitsAt_iff _ _).mp (h.waits p c (by simpa using ha))).1

/-! ## Release, arrival and withdrawal (chapter 4) -/

@[simp] theorem State.releaseChannels_points (set : ChSet) (s : State) :
    (s.releaseChannels set).points = s.points := rfl

/-- Channels released at a point, which then has no arrivals: each has a head and has arrived at no other point. -/
theorem State.InRange.releaseAt {s : State} (h : s.InRange) (p : Fin 8) (set : ChSet)
    (hset : ∀ c, set.has c = true → s.chans[c].queue ≠ [] ∧ ∀ q, q ≠ p → s.points[q].arrived.has c = false) :
    ((s.releaseChannels set).modPoint p Point.afterRelease).InRange where
  tb := h.tb
  chan c := by
    simp only [State.modPoint_chans, State.releaseChannels, State.mapChans_get]
    split
    · next hc => exact (h.chan c).release (hset c hc).1 _
    · exact h.chan c
  waits q c ha := by
    rw [State.modPoint_get, State.releaseChannels_points] at ha
    split at ha
    · exact absurd ((ChSet.has_zero c).symm.trans ha) (by decide)
    · next hq =>
      have hnot : set.has c = false := by
        by_contra hc
        exact absurd (((hset c (by simpa using hc)).2 q hq).symm.trans ha) (by decide)
      rw [State.modPoint_chans, State.releaseChannels, State.mapChans_get, hnot]
      exact h.waits q c ha

theorem State.InRange.arrived_elsewhere {s : State} (h : s.InRange) {p : Fin 8} {c : Fin 16}
    (ha : s.points[p].arrived.has c = true) :
    s.chans[c].queue ≠ [] ∧ ∀ q, q ≠ p → s.points[q].arrived.has c = false := by
  have hp := (Channel.waitsAt_iff _ _).mp (h.waits p c ha)
  refine ⟨fun hnil => by rw [hnil] at hp; exact absurd hp.2 (by simp), fun q hq => ?_⟩
  by_contra hb
  have hq' := (Channel.waitsAt_iff _ _).mp (h.waits q c (by simpa using hb))
  have : some (Segment.sync p) = some (Segment.sync q) := hp.2.symm.trans hq'.2
  simp only [Option.some.injEq, Segment.sync.injEq] at this
  exact hq this.symm

theorem State.InRange.expireGathering {s : State} (h : s.InRange) (p : Fin 8) : (s.expireGathering p).InRange :=
  (h.releaseAt p _ fun _ => h.arrived_elsewhere).offer _

theorem State.InRange.arrive {s : State} (h : s.InRange) {c : Fin 16} (hn : s.NotArrived c) {p : Fin 8}
    {rest : List Segment} (hq : s.chans[c].queue = .sync p :: rest) : (s.arrive c p).InRange := by
  unfold State.arrive
  split
  · next hfull =>
    refine State.InRange.offer (h.releaseAt p _ fun x hx => ?_) _
    rw [← hfull, ChSet.has_add, Bool.or_eq_true, decide_eq_true_eq] at hx
    rcases hx with hx | rfl
    · exact h.arrived_elsewhere hx
    · exact ⟨by rw [hq]; exact List.cons_ne_nil _ _, fun q _ => hn q⟩
  · have hwait : (s.modChan c fun ch => { ch with state := .waiting }).InRange := h.modNotArrived hn (h.chan c)
    refine State.InRange.modPoint (f := fun pt => pt.join c) hwait fun x hx => ?_
    have hx : s.points[p].arrived.has x = true ∨ x = c := by simpa [Point.join] using hx
    rcases hx with hx | rfl
    · exact hwait.waits p x hx
    · rw [Channel.waitsAt_iff, State.modChan_get, if_pos rfl]
      exact ⟨rfl, by rw [hq]; rfl⟩

theorem State.withdraw_chans (c : Fin 16) (s : State) : (s.withdraw c).chans = s.chans := by
  unfold State.withdraw
  split <;> rfl

theorem State.InRange.withdraw {s : State} (h : s.InRange) (c : Fin 16) : (s.withdraw c).InRange := by
  unfold State.withdraw
  split
  · next p _ _ _ =>
    refine h.modPoint fun x hx => h.waits p x ?_
    simp only [Point.leave, ChSet.has_drop, Bool.and_eq_true] at hx
    exact hx.1
  · exact h

/-- After its withdrawal a channel has arrived nowhere (R71). -/
theorem State.InRange.notArrived_withdraw {s : State} (h : s.InRange) (c : Fin 16) : (s.withdraw c).NotArrived c := by
  intro q
  by_contra ha
  replace ha : (s.withdraw c).points[q].arrived.has c = true := by simpa using ha
  have hw := (h.withdraw c).waits q c ha
  rw [State.withdraw_chans, Channel.waitsAt_iff] at hw
  obtain ⟨rest, hrest⟩ := List.head?_eq_some_iff.mp hw.2
  unfold State.withdraw at ha
  rw [hw.1, hrest, State.modPoint_get, if_pos rfl] at ha
  simp [Point.leave] at ha

/-! ## The six stages (chapter 3) -/

theorem State.InRange.stageLevel {s : State} (h : s.InRange) (c : Fin 16) : (s.stageLevel c).InRange := by
  unfold State.stageLevel
  split
  · exact h
  · next p hp =>
    refine State.InRange.offerIf (h.modChan ?_ fun q ha => h.waits q c ha) _ _
    obtain ⟨_, hi, hf, hpl, hrest⟩ := h.chan c
    exact ⟨hpl p hp, hi, hf, fun _ hm => (by cases hm), hrest⟩

theorem State.promote_points (c : Fin 16) (s : State) : (s.promote c).points = s.points := by
  unfold State.promote
  split <;> rfl

theorem State.InRange.promote {s : State} (h : s.InRange) {c : Fin 16} (hn : s.NotArrived c) :
    (s.promote c).InRange := by
  unfold State.promote
  split
  · exact h
  · next r hr =>
    have hv : ∀ seg ∈ r.segments, seg.valid = true := (h.chan c).replacement_valid r hr
    exact (h.modNotArrived (f := fun ch => { ch with queue := r.segments, run := .clear, replacement := none }) hn
      ((h.chan c).requeue hv).dropReplacement).congr rfl rfl rfl

theorem State.InRange.stageReplacement {s : State} (h : s.InRange) (c : Fin 16) : (s.stageReplacement c).InRange := by
  unfold State.stageReplacement
  split
  · exact h
  · have hn : (s.withdraw c).NotArrived c := h.notArrived_withdraw c
    have hp : ((s.withdraw c).promote c).InRange := (h.withdraw c).promote hn
    have hn' : ((s.withdraw c).promote c).NotArrived c := by
      unfold State.NotArrived
      rw [State.promote_points]
      exact hn
    exact (hp.modNotArrived hn' (hp.chan c)).offerIf _ _

theorem Channel.applyControl_waitsAt {ch : Channel} {p : Fin 8} (h : ch.waitsAt p = true) :
    ch.applyControl.waitsAt p = true := by
  rw [Channel.waitsAt_iff] at h ⊢
  exact ⟨by simp [Channel.applyControl, h.1], h.2⟩

theorem State.InRange.stageControl {s : State} (h : s.InRange) (c : Fin 16) : (s.stageControl c).InRange :=
  h.modChan (h.chan c) fun p ha => Channel.applyControl_waitsAt (h.waits p c ha)

theorem State.completeHead_points (c : Fin 16) (s : State) : (s.completeHead c).points = s.points := by
  unfold State.completeHead
  split
  · rfl
  · split <;> rfl

theorem State.InRange.completeHead {s : State} (h : s.InRange) {c : Fin 16} (hn : s.NotArrived c) :
    (s.completeHead c).InRange := by
  have hv := (h.chan c).queue_valid
  unfold State.completeHead
  split
  · exact h
  · next head rest hq =>
    rw [hq] at hv
    split
    · have hrest : ∀ seg ∈ rest, seg.valid = true := fun seg hm => hv seg (List.mem_cons_of_mem _ hm)
      exact (h.modNotArrived (f := fun ch => { ch with queue := rest, run := .clear }) hn
        ((h.chan c).requeue hrest)).congr rfl rfl rfl
    · refine h.modNotArrived hn ((h.chan c).requeue fun seg hm => hv seg ?_)
      simpa [or_comm] using hm

theorem State.NotArrived.completeHead {s : State} {c : Fin 16} (hn : s.NotArrived c) :
    (s.completeHead c).NotArrived c := by
  unfold State.NotArrived
  rw [State.completeHead_points]
  exact hn

theorem State.InRange.endProgram {s : State} (h : s.InRange) {c : Fin 16} (hn : s.NotArrived c) :
    (s.endProgram c).InRange := (h.offer _).modNotArrived hn (h.chan c)

theorem State.InRange.startHeads {c : Fin 16} (n : Nat) {s : State} (h : s.InRange) (hn : s.NotArrived c) :
    (State.startHeads c n s).InRange := by
  induction n generalizing s with
  | zero =>
    unfold State.startHeads
    split
    · exact h.endProgram hn
    · exact h
  | succ n ih =>
    unfold State.startHeads
    split
    · exact h.endProgram hn
    · next level _ hq =>
      have hl : level ≤ 4096 := by
        have := (h.chan c).queue_valid (.set level) (hq ▸ List.mem_cons_self)
        simpa [Segment.valid] using this
      have hset := h.modNotArrived (f := fun ch => { ch with level := level }) hn ((h.chan c).setLevel hl)
      exact ih (hset.completeHead hn) (State.NotArrived.completeHead hn)
    · exact ih ((h.offer _).completeHead hn) (State.NotArrived.completeHead hn)
    · next hq => exact h.modNotArrived hn ((h.chan c).startHold hq)
    · next hq => exact h.modNotArrived hn ((h.chan c).startRamp hq)
    · next hq =>
      split
      · exact h.arrive hn hq
      · exact ih ((h.offer _).completeHead hn) (State.NotArrived.completeHead hn)

theorem State.InRange.stageAdvance {s : State} (h : s.InRange) (c : Fin 16) : (s.stageAdvance c).InRange := by
  unfold State.stageAdvance
  dsimp only
  split
  · exact h
  · next hrun =>
    have hn : s.NotArrived c := h.notArrived_of_state (by simp_all)
    split
    · exact h.startHeads _ hn
    · next hstep => exact h.modNotArrived hn ((h.chan c).nextPeriod hstep)
    · exact (h.completeHead hn).startHeads _ hn.completeHead
    · exact h

theorem State.InRange.stageLatch {s : State} (h : s.InRange) (c : Fin 16) : (s.stageLatch c).InRange :=
  h.modChan ((h.chan c).latch (h.tb _).period_le) fun p ha => h.waits p c ha

theorem State.InRange.stageUnforce {s : State} (h : s.InRange) (c : Fin 16) : (s.stageUnforce c).InRange := by
  unfold State.stageUnforce
  split
  · exact h.modChan (h.chan c) fun p ha => h.waits p c ha
  · exact h

theorem State.InRange.modPair {s : State} (h : s.InRange) (k : Fin 8) (f : Pair → Pair) : (s.modPair k f).InRange :=
  h.congr rfl rfl rfl

theorem State.InRange.restartPair {s : State} (h : s.InRange) (k : Fin 8) : (s.restartPair k).InRange := by
  unfold State.restartPair
  split
  · exact h.modPair _ _
  · exact h

theorem State.InRange.handleBoundary {s : State} (h : s.InRange) (starts : Bool) (c : Fin 16) (old : State) :
    (s.handleBoundary starts c old).InRange := by
  have hsix := (((((h.stageLevel c).stageReplacement c).stageControl c).stageAdvance c).stageLatch c).stageUnforce c
  unfold State.handleBoundary State.boundaryPair
  dsimp only
  split
  · exact hsix
  · split
    · exact hsix.restartPair _
    · exact hsix.modPair _ _

/-! ## The timebases (chapter 1) -/

theorem Timebase.Inv.begin {tb : Timebase} (h : tb.Inv) (starts : Bool) : (tb.begin starts).Inv := by
  obtain ⟨hd, hlo, hhi, hp, -, -, -⟩ := h
  have hper : 16 ≤ (tb.begin starts).period ∧ (tb.begin starts).period ≤ 4096 := by
    simp only [Timebase.begin]
    split
    · next p hpp => exact hp p hpp
    · exact ⟨hlo, hhi⟩
  refine ⟨hd, hper.1, hper.2, fun _ hm => (by cases hm), ?_, fun _ _ => ?_, fun _ => ⟨rfl, rfl⟩⟩
  · exact Nat.lt_of_lt_of_le (Nat.zero_lt_succ 15) (by decide)
  · exact Nat.lt_of_lt_of_le (Nat.zero_lt_succ 15) hper.1

theorem Timebase.Inv.count {tb : Timebase} (h : tb.Inv) (hrun : tb.state = .running) (hend : tb.atEnd = false) :
    tb.count.Inv := by
  obtain ⟨hd, hlo, hhi, hp, hc, hb, -⟩ := h
  have hne : tb.counter + 1 ≠ tb.period := by simpa [Timebase.atEnd] using hend
  refine ⟨hd, hlo, hhi, hp, ?_, fun hr hs => ?_, fun hh => ?_⟩
  · simp only [Timebase.count]; split <;> omega
  · have := hb hr hs
    simp only [Timebase.count]; split <;> omega
  · exact absurd (hrun.symm.trans hh) (by decide)

theorem Timebase.Inv.start {tb : Timebase} (h : tb.Inv) : tb.start.Inv := by
  obtain ⟨hd, hlo, hhi, hp, -, -, -⟩ := h
  exact ⟨hd, hlo, hhi, hp, Nat.zero_lt_succ _, fun _ _ => Nat.lt_of_lt_of_le (Nat.zero_lt_succ 15) hlo,
    fun _ => ⟨rfl, rfl⟩⟩

theorem Timebase.Inv.stop {tb : Timebase} (h : tb.Inv) : tb.stop.Inv := by
  unfold Timebase.stop
  split
  · obtain ⟨hd, hlo, hhi, hp, -, -, -⟩ := h
    exact ⟨hd, hlo, hhi, hp, Nat.zero_lt_succ _, TbState.noConfusion, fun _ => ⟨rfl, rfl⟩⟩
  · exact h

theorem Timebase.Inv.clock {tb : Timebase} (h : tb.Inv) : tb.clock.Inv := by
  unfold Timebase.clock
  split <;> exact h

theorem Timebase.Inv.dropPending {tb : Timebase} (h : tb.Inv) : Timebase.Inv { tb with pendingPeriod := none } := by
  obtain ⟨hd, hlo, hhi, -, hrest⟩ := h
  exact ⟨hd, hlo, hhi, fun _ hm => (by cases hm), hrest⟩

theorem Timebase.Inv.setPending {tb : Timebase} (h : tb.Inv) {p : PendingPeriod}
    (hp : 16 ≤ p.period ∧ p.period ≤ 4096) : Timebase.Inv { tb with pendingPeriod := some p } := by
  obtain ⟨hd, hlo, hhi, -, hrest⟩ := h
  exact ⟨hd, hlo, hhi, fun _ hm => (by cases hm; exact hp), hrest⟩

/-- A period ahead of the counter, or on a HALTED timebase (R9, R11). -/
theorem Timebase.Inv.setPeriod {tb : Timebase} (h : tb.Inv) {P : Nat} (hP : 16 ≤ P ∧ P ≤ 4096)
    (hc : tb.state = .running → tb.counter < P) : Timebase.Inv { tb with period := P } := by
  obtain ⟨hd, -, -, hp, hcnt, -, hh⟩ := h
  exact ⟨hd, hP.1, hP.2, hp, hcnt, fun hr _ => hc hr, hh⟩

theorem State.InRange.takeBoundaryPart {s : State} (h : s.InRange) (b : Fin 4) (starts : Bool) (old : State)
    (part : BoundaryPart) : (State.takeBoundaryPart b starts old part s).InRange := by
  cases part with
  | applied seq => exact h.offer _
  | channel c => exact h.handleBoundary _ _ _

theorem State.InRange.forEachInAnyOrder {α : Type} {s : State} (h : s.InRange) (xs : List α)
    (f : α → State → State) (hf : ∀ x u, u.InRange → (f x u).InRange) : (forEachInAnyOrder xs f s).InRange :=
  forEachInAnyOrder_induction State.InRange xs f (fun _ _ hu => hu.congr rfl rfl rfl) (fun x _ u hu => hf x u hu) s h

theorem State.InRange.forEach {α : Type} {s : State} (h : s.InRange) (xs : List α)
    (f : α → State → State) (hf : ∀ x u, u.InRange → (f x u).InRange) : (forEach xs f s).InRange :=
  forEach_induction State.InRange xs f (fun x _ u hu => hf x u hu) s h

theorem State.InRange.boundary {s : State} (h : s.InRange) (starts : Bool) (b : Fin 4) :
    (s.boundary starts b).InRange :=
  (h.modTb ((h.tb b).begin starts)).forEachInAnyOrder _ _ fun part _ hu => hu.takeBoundaryPart b starts s part

theorem State.InRange.tickTimebase {s : State} (h : s.InRange) {b : Fin 4} (hrun : s.tbs[b].state = .running) :
    (s.tickTimebase b).InRange := by
  unfold State.tickTimebase
  split
  · exact h.boundary _ _
  · next hend => exact (h.modTb ((h.tb b).count hrun (by simpa using hend))).congr rfl rfl rfl

end Sys2Proof.Machine

namespace Sys2Proof.Machine

/-! ## Faults and speed units (chapters 7 and 8) -/

theorem State.InRange.modFault {s : State} (h : s.InRange) (f : Fin 4) (g : FaultSource → FaultSource) :
    (s.modFault f g).InRange := h.congr rfl rfl rfl

theorem State.InRange.modUnit {s : State} (h : s.InRange) (u : Fin 4) (g : SpeedUnit → SpeedUnit) :
    (s.modUnit u g).InRange := h.congr rfl rfl rfl

theorem State.InRange.modLink {s : State} (h : s.InRange) (g : Link → Link) : (s.modLink g).InRange :=
  h.congr rfl rfl rfl

theorem State.InRange.forceChannel {s : State} (h : s.InRange) (c : Fin 16) : (s.forceChannel c).InRange := by
  have hf : (s.modChan c fun ch => { ch with forced := true }).InRange := h.modChan (h.chan c) fun p => h.waits p c
  unfold State.forceChannel State.forcePair
  split
  · exact hf.modPair _ _
  · exact hf

theorem State.InRange.stopChannel {s : State} (h : s.InRange) (c : Fin 16) : (s.stopChannel c).InRange := by
  unfold State.stopChannel
  split
  · exact h
  · exact (h.withdraw c).modNotArrived (h.notArrived_withdraw c) ((h.withdraw c).chan c)

theorem State.InRange.coverChannel {s : State} (h : s.InRange) (f : Fin 4) (c : Fin 16) :
    (s.coverChannel f c).InRange := by
  unfold State.coverChannel
  split
  · exact h
  · exact h.forceChannel c
  · exact (h.forceChannel c).stopChannel c

theorem State.InRange.latchFault {s : State} (h : s.InRange) (f : Fin 4) : (s.latchFault f).InRange :=
  ((h.offer _).modFault f _).forEach _ _ fun c _ hu => hu.coverChannel f c

theorem State.InRange.activateFault {s : State} (h : s.InRange) (f : Fin 4) : (s.activateFault f).InRange := by
  unfold State.activateFault
  dsimp only
  split
  · exact h.modFault _ _
  · exact (h.modFault _ _).latchFault f

theorem State.InRange.sampleFaults {s : State} (h : s.InRange) (flt : Vector Bool 2) : (s.sampleFaults flt).InRange :=
  ((h.modFault _ _).modFault _ _).forEachInAnyOrder _ _ fun f _ hu => hu.activateFault f

theorem State.InRange.settleSpeed {s : State} (h : s.InRange) : s.settleSpeed.InRange := by
  unfold State.settleSpeed
  split
  · exact h
  · exact h.modFault _ _

theorem State.InRange.expireWindow {s : State} (h : s.InRange) (u : Fin 4) : (s.expireWindow u).InRange := by
  refine State.InRange.settleSpeed ((h.modUnit u _).forEachInAnyOrder _ _ fun e v hv => ?_)
  cases e with
  | report r => exact hv.offer r
  | raiseSpeed => exact hv.activateFault _

/-- A FAULTED channel that returns waits nowhere (R107). -/
theorem State.InRange.clearFault {s : State} (h : s.InRange) (f : Fin 4) : (s.clearFault f).InRange := by
  refine State.InRange.mapChans ((h.modFault f _).offer _) (fun c => ?_) (fun c p hw => ?_)
  · split
    · exact h.chan c
    · exact h.chan c
  · split
    · next hfault => exact absurd (hfault.1.symm.trans ((Channel.waitsAt_iff _ _).mp hw).1) (by decide)
    · exact hw

/-! ## What the payload fields allow (R8, R21, R53) -/

theorem within?_some {lo hi v n : Nat} (h : within? lo hi v = some n) : lo ≤ n ∧ n ≤ hi := by
  unfold within? at h
  split at h
  · next hv => cases h; exact hv
  · cases h

theorem divider?_some {v d : Nat} (h : divider? v = some d) : d ∈ [1, 2, 4, 8, 16, 32, 64, 128] := by
  unfold divider? at h
  split at h
  · next hv => cases h; exact hv
  · cases h

theorem segment?_valid {kind level periods last : Nat} {seg : Segment} (hp : periods ≤ 65535)
    (h : segment? kind level periods last = some seg) : seg.valid = true := by
  unfold segment? at h
  split at h
  · split at h
    · next hv => cases h; simp [Segment.valid, hv.1]
    · cases h
  · split at h
    · next hv =>
      obtain ⟨hlevel, hpos, _⟩ := hv
      cases h
      simp [Segment.valid, hlevel, hpos, hp]
    · cases h
  · split at h
    · next hv =>
      obtain ⟨_, hpos, _⟩ := hv
      cases h
      simp [Segment.valid, hpos, hp]
    · cases h
  · split at h
    · obtain ⟨p, _, rfl⟩ := Option.map_eq_some_iff.mp h
      rfl
    · cases h
  · split at h
    · cases h; rfl
    · cases h
  · cases h

theorem segments?_valid (bytes : List Byte) : ∀ segs, segments? bytes = some segs →
    ∀ seg ∈ segs, seg.valid = true := by
  fun_induction segments? bytes with
  | case1 =>
    rintro segs h seg hm
    cases h
    cases hm
  | case2 k l0 l1 p0 p1 x rest first others hothers hfirst ih =>
    rintro segs h seg hm
    cases h
    rcases List.mem_cons.mp hm with rfl | hm
    · exact segment?_valid (by have := p0.isLt; have := p1.isLt; omega) hfirst
    · exact ih others hothers seg hm
  | case3 => rintro segs h; cases h
  | case4 => rintro segs h; cases h

/-! ## Requests (chapters 1 to 11) -/

theorem accept_inRange {s : State} (h : s.InRange) (st : Status) (payload : List Byte) :
    (accept st payload s).2.InRange := h

theorem checked_inRange {tests : List (Bool × Status)} {s : State} {e : Reply × State} (h : s.InRange)
    (he : firstFailure tests = none → e.2.InRange) : (checked tests s e).2.InRange := by
  unfold checked
  split
  · exact h
  · next hnone => exact he hnone

theorem forSet_inRange {p : List Byte} {s : State} {bad : Channel → Bool} {effect : ChSet → Reply × State}
    (h : s.InRange) (he : ∀ set, s.anyOf set bad = false → (effect set).2.InRange) :
    (forSet p s bad effect).2.InRange := by
  unfold forSet
  split
  · exact h
  · refine checked_inRange h fun hnone => he _ ?_
    by_contra hbad
    simp only [firstFailure, Bool.eq_true_of_not_eq_false hbad, if_true] at hnone
    split at hnone
    · cases hnone
    · split at hnone <;> cases hnone

theorem State.InRange.modSet {s : State} (h : s.InRange) {set : ChSet} {f : Channel → Channel}
    (hr : ∀ c : Fin 16, (f s.chans[c]).RangeInv)
    (hw : ∀ c p, set.has c = true → s.chans[c].waitsAt p = true → (f s.chans[c]).waitsAt p = true) :
    (s.modSet set f).InRange := by
  refine h.mapChans (fun c => ?_) (fun c p hwait => ?_)
  · split
    · exact hr c
    · exact h.chan c
  · split
    · next hc => exact hw c p hc hwait
    · exact hwait

theorem State.anyOf_eq_false {s : State} {set : ChSet} {f : Channel → Bool} (h : s.anyOf set f = false)
    {c : Fin 16} (hc : set.has c = true) : f s.chans[c] = false := by
  have := List.any_eq_false.mp h c (List.mem_finRange c)
  rw [hc, Bool.true_and] at this
  exact Bool.eq_false_iff.mpr this

theorem State.InRange.dropPendingPeriod {s : State} (h : s.InRange) (b : Fin 4) : (s.dropPendingPeriod b).InRange :=
  (h.modTb (h.tb b).dropPending).offerIf _ _

theorem State.dropPendingPeriod_get (b : Fin 4) (s : State) :
    (s.dropPendingPeriod b).tbs[b] = { s.tbs[b] with pendingPeriod := none } := by
  rw [State.dropPendingPeriod, State.offerIf_tbs, State.modTb_get, if_pos rfl]

theorem takeTbConfig_inRange {s : State} (h : s.InRange) (p : List Byte) : (takeTbConfig p s).2.InRange := by
  unfold takeTbConfig
  split
  · exact h
  · split
    · next b d period _ hd hp =>
      split
      · exact h
      · next hhalt =>
        refine accept_inRange ((h.dropPendingPeriod b).modTb ?_) _ _
        rw [State.dropPendingPeriod_get]
        obtain ⟨_, hrest⟩ := (h.tb b).dropPending.setPeriod (within?_some hp) fun hr => absurd hr hhalt
        exact ⟨divider?_some hd, hrest⟩
    · exact h

theorem takeTbStart_inRange {s : State} (h : s.InRange) (p : List Byte) : (takeTbStart p s).2.InRange := by
  unfold takeTbStart
  split
  · exact h
  · split
    · exact h
    · next set _ =>
      split
      · exact h
      · refine State.InRange.forEachInAnyOrder (h.mapTbs fun b => ?_) _ _ fun b _ hu => hu.boundary true b
        split
        · exact (h.tb b).start
        · exact h.tb b

theorem takeTbStop_inRange {s : State} (h : s.InRange) (p : List Byte) : (takeTbStop p s).2.InRange := by
  unfold takeTbStop
  split
  · exact h
  · split
    · exact h
    · next set _ =>
      have hstop : (s.mapTbs fun t tb => if set.contains t then tb.stop else tb).InRange := h.mapTbs fun b => by
        split
        · exact (h.tb b).stop
        · exact h.tb b
      exact hstop.congr rfl rfl rfl

theorem takeTbPeriod_inRange {s : State} (h : s.InRange) (seq : Byte) (p : List Byte) :
    (takeTbPeriod seq p s).2.InRange := by
  unfold takeTbPeriod
  split
  · exact h
  · split
    · next b period timing notify _ hp _ _ =>
      have hper := within?_some hp
      have hdrop := (h.tb b).dropPending
      split
      · next hhalt _ =>
        refine accept_inRange ((h.dropPendingPeriod b).modTb ?_) _ _
        rw [State.dropPendingPeriod_get]
        exact hdrop.setPeriod hper fun hr => absurd (hhalt.symm.trans hr) (by decide)
      · refine accept_inRange ((h.dropPendingPeriod b).modTb ?_) _ _
        rw [State.dropPendingPeriod_get]
        exact (h.tb b).setPending hper
      · split
        · next hlt =>
          refine accept_inRange ((h.dropPendingPeriod b).modTb ?_) _ _
          rw [State.dropPendingPeriod_get]
          exact hdrop.setPeriod hper fun _ => hlt
        · next hrun _ _ =>
          refine State.InRange.offer ((h.dropPendingPeriod b).modTb ?_) _
          rw [State.dropPendingPeriod_get]
          obtain ⟨hd, _, _, hnone, hcount, _, _⟩ := hdrop
          exact ⟨hd, hper.1, hper.2, hnone, hcount, fun _ hst => Bool.noConfusion hst,
            fun hh => absurd (hrun.symm.trans hh) (by decide)⟩
    · exact h

theorem takeChQuota_inRange {s : State} (h : s.InRange) (p : List Byte) : (takeChQuota p s).2.InRange := by
  unfold takeChQuota
  split
  · exact h
  · exact checked_inRange h fun _ => accept_inRange (h.mapChans (fun c => h.chan c) fun _ _ hw => hw) _ _

theorem takeSegAppend_inRange {s : State} (h : s.InRange) (p : List Byte) : (takeSegAppend p s).2.InRange := by
  unfold takeSegAppend
  split
  · exact h
  · split
    · next c segs _ hsegs =>
      refine checked_inRange h fun _ => ?_
      have happ : (s.modChan c fun ch => { ch with queue := ch.queue ++ segs }).InRange :=
        h.modChan ((h.chan c).append (segments?_valid _ _ hsegs)) fun q ha => Channel.waitsAt_append _ (h.waits q c ha)
      exact happ.congr rfl rfl rfl
    · exact h

theorem State.InRange.freeReplacement {s : State} (h : s.InRange) (c : Fin 16) : (s.freeReplacement c).InRange := by
  unfold State.freeReplacement
  split
  · exact h
  · have hdrop : (s.modChan c fun ch => { ch with replacement := none }).InRange :=
      h.modChan (h.chan c).dropReplacement fun p => h.waits p c
    exact hdrop.congr rfl rfl rfl

theorem State.InRange.supersedeReplacement {s : State} (h : s.InRange) (c : Fin 16) :
    (s.supersedeReplacement c).InRange := by
  unfold State.supersedeReplacement
  split
  · exact h
  · exact (h.freeReplacement c).offerIf _ _

theorem takeSegReplace_inRange {s : State} (h : s.InRange) (seq : Byte) (p : List Byte) :
    (takeSegReplace seq p s).2.InRange := by
  unfold takeSegReplace
  split
  · exact h
  · split
    · next c notify segs _ _ hsegs =>
      refine checked_inRange h fun _ => ?_
      have hsup := h.supersedeReplacement c
      have hnew : ((s.supersedeReplacement c).modChan c fun ch =>
          { ch with replacement := some { segments := segs, notify := if notify then some seq else none } }).InRange :=
        hsup.modChan ((hsup.chan c).setReplacement (segments?_valid _ _ hsegs)) fun q => hsup.waits q c
      exact hnew.congr rfl rfl rfl
    · exact h

theorem State.InRange.rebindPair {s : State} (h : s.InRange) (c : Fin 16) (old : State) :
    (s.rebindPair c old).InRange := by
  unfold State.rebindPair
  dsimp only
  split
  · exact h
  · split
    · split
      · exact h.modPair _ _
      · exact h
    · split
      · exact h.restartPair _
      · split
        · exact h
        · exact h.modPair _ _

theorem takeChConfig_inRange {s : State} (h : s.InRange) (p : List Byte) : (takeChConfig p s).2.InRange := by
  unfold takeChConfig
  split
  · exact h
  · split
    · next c tb mode safe _ _ _ _ =>
      refine checked_inRange h fun _ => ?_
      have hconf : (s.configChannel c tb mode safe).InRange := by
        refine h.mapChans (fun x => ?_) (fun x q hw => ?_)
        · split
          · exact h.chan x
          · split <;> exact h.chan x
        · split
          · exact hw
          · split <;> exact hw
      exact hconf.rebindPair c s
    · exact h

theorem takeChLevel_inRange {s : State} (h : s.InRange) (seq : Byte) (p : List Byte) :
    (takeChLevel seq p s).2.InRange := by
  unfold takeChLevel
  split
  · exact h
  · split
    · next c level notify _ hl _ =>
      refine checked_inRange h fun _ => State.InRange.offerIf (h.modChan ?_ fun q => h.waits q c) _ _
      exact (h.chan c).setPendingLevel (within?_some hl).2
    · exact h

/-- CH_START takes only IDLE channels, which wait nowhere (R54). -/
theorem takeChStart_inRange {s : State} (h : s.InRange) (p : List Byte) : (takeChStart p s).2.InRange := by
  refine forSet_inRange h fun set hgood => accept_inRange
    (h.modSet (f := fun ch => { ch with state := .armed }) h.chan fun c q hc hw => ?_) _ _
  have hidle : s.chans[c].state = .idle := by
    have := State.anyOf_eq_false hgood hc
    simpa using (Bool.or_eq_false_iff.mp this).1
  exact absurd (hidle.symm.trans ((Channel.waitsAt_iff _ _).mp hw).1) (by decide)

theorem takeChPause_inRange {s : State} (h : s.InRange) (p : List Byte) : (takeChPause p s).2.InRange :=
  forSet_inRange h fun _ _ => accept_inRange
    (h.modSet (f := fun ch => { ch with pendingControl := .pause }) h.chan fun _ _ _ hw => hw) _ _

theorem takeChResume_inRange {s : State} (h : s.InRange) (p : List Byte) : (takeChResume p s).2.InRange :=
  forSet_inRange h fun _ _ => accept_inRange (h.modSet (f := Channel.resume) h.chan fun _ _ _ hw => hw) _ _

theorem State.supersedeReplacement_points (c : Fin 16) (s : State) :
    (s.supersedeReplacement c).points = s.points := by
  unfold State.supersedeReplacement State.freeReplacement
  split
  · rfl
  · rw [State.offerIf_points]
    split <;> rfl

theorem State.InRange.flushChannel {s : State} (h : s.InRange) (c : Fin 16) : (s.flushChannel c).InRange := by
  have hn := h.notArrived_withdraw c
  have hfree : ((s.withdraw c).freeQueue c).InRange := by
    have hq : ((s.withdraw c).modChan c fun ch => { ch with queue := [], run := .clear }).InRange :=
      (h.withdraw c).modNotArrived hn (((h.withdraw c).chan c).requeue fun _ hm => by cases hm)
    exact hq.congr rfl rfl rfl
  have hsup := hfree.supersedeReplacement c
  refine hsup.modNotArrived (fun p => ?_) (hsup.chan c)
  rw [State.supersedeReplacement_points]
  exact hn p

theorem takeChFlush_inRange {s : State} (h : s.InRange) (p : List Byte) : (takeChFlush p s).2.InRange :=
  forSet_inRange h fun _ _ => h.forEachInAnyOrder _ _ fun c _ hu => hu.flushChannel c

theorem takeRpDefine_inRange {s : State} (h : s.InRange) (p : List Byte) : (takeRpDefine p s).2.InRange := by
  unfold takeRpDefine
  split
  · exact h
  · split
    · next i timeout _ _ =>
      split
      · exact h
      · exact accept_inRange (h.modPoint fun c => h.waits i c) _ _
    · exact h

theorem State.InRange.coverRetested {s : State} (h : s.InRange) (k : Fin 8) : (s.coverRetested k).InRange :=
  h.forEach _ _ fun f _ hu => hu.coverChannel f _

theorem State.InRange.enablePair {s : State} (h : s.InRange) (k : Fin 8) (d : Nat) : (s.enablePair k d).InRange := by
  have hp := h.modPair k fun pr => { pr with enabled := true, deadTime := d }
  have hc := hp.modChan (c := oddOf k) (f := fun ch => { ch with locked := true, tb := s.chans[evenOf k].tb })
    (hp.chan _) fun q => hp.waits q _
  exact hc.restartPair k

theorem State.InRange.disablePair {s : State} (h : s.InRange) (k : Fin 8) (d : Nat) :
    (s.disablePair k d).InRange := by
  have hp := h.modPair k fun pr => { pr.low with enabled := false, deadTime := d }
  exact hp.modChan (c := oddOf k) (f := fun ch => { ch with locked := false }) (hp.chan _) fun q => hp.waits q _

theorem State.InRange.configPair {s : State} (h : s.InRange) (k : Fin 8) (enable : Bool) (d : Nat) :
    (s.configPair k enable d).InRange := by
  unfold State.configPair
  split
  · exact (h.enablePair k d).coverRetested k
  · exact h.modPair _ _
  · exact (h.disablePair k d).coverRetested k
  · exact h.modPair _ _

theorem takePairConfig_inRange {s : State} (h : s.InRange) (p : List Byte) : (takePairConfig p s).2.InRange := by
  unfold takePairConfig
  split
  · exact h
  · split
    · split
      · exact h
      · exact h.configPair _ _ _
    · exact h

theorem takeFaultConfig_inRange {s : State} (h : s.InRange) (p : List Byte) : (takeFaultConfig p s).2.InRange := by
  unfold takeFaultConfig
  split
  · exact h
  · split
    · split
      · split
        · exact h
        · exact accept_inRange (h.modFault _ _) _ _
      · exact h
    · exact h

theorem takeFaultClear_inRange {s : State} (h : s.InRange) (p : List Byte) : (takeFaultClear p s).2.InRange := by
  unfold takeFaultClear
  split
  · exact h
  · split
    · exact h
    · split
      · exact h
      · split
        · exact h.clearFault _
        · exact h

theorem takeSmConfig_inRange {s : State} (h : s.InRange) (p : List Byte) : (takeSmConfig p s).2.InRange := by
  unfold takeSmConfig
  split
  · exact h
  · split
    · exact (h.modUnit _ _).settleSpeed
    · exact h

theorem State.InRange.changeLink {s : State} (h : s.InRange) (rate : Option Rate) (window limit : Option Nat) :
    (s.changeLink rate window limit).InRange := by
  unfold State.changeLink
  cases rate <;> cases window <;> cases limit <;> exact h.congr rfl rfl rfl

theorem takeSetLink_inRange {s : State} (h : s.InRange) (p : List Byte) : (takeSetLink p s).2.InRange := by
  unfold takeSetLink
  split
  · exact h
  · split
    · split
      · exact h
      · exact h.changeLink _ _ _
    · exact h

theorem takeGetStatus_inRange {s : State} (h : s.InRange) (p : List Byte) : (takeGetStatus p s).2.InRange := by
  unfold takeGetStatus
  split
  · exact h
  · split
    · exact h
    · simp only [accept]
      split
      · exact h.modLink _
      · exact h

theorem takeRptAck_inRange {s : State} (h : s.InRange) (p : List Byte) : (takeRptAck p s).2.InRange := by
  unfold takeRptAck
  split
  · exact h
  · split
    · exact h
    · exact h.congr rfl rfl rfl

/-- A request that only reads, and one that writes the router or the report queue. -/
theorem query_inRange {s : State} (h : s.InRange) (p : List Byte) :
    (takeGetInfo p s).2.InRange ∧ (takeResetDevice p s).2.InRange ∧ (takeTbQuery p s).2.InRange ∧
      (takeChQuery p s).2.InRange ∧ (takeRpQuery p s).2.InRange ∧ (takeOutQuery p s).2.InRange ∧
      (takeFaultQuery p s).2.InRange ∧ (takeSmQuery p s).2.InRange := by
  refine ⟨?_, ?_, ?_, ?_, ?_, ?_, ?_, ?_⟩
  · unfold takeGetInfo; split <;> exact h
  · unfold takeResetDevice; split <;> exact h
  · unfold takeTbQuery; split; · exact h
    split <;> exact h
  · unfold takeChQuery; split; · exact h
    split <;> exact h
  · unfold takeRpQuery; split; · exact h
    split <;> exact h
  · unfold takeOutQuery; split <;> exact h
  · unfold takeFaultQuery; split; · exact h
    split <;> exact h
  · unfold takeSmQuery; split; · exact h
    split <;> exact h

theorem takeRouteSet_inRange {s : State} (h : s.InRange) (p : List Byte) : (takeRouteSet p s).2.InRange := by
  unfold takeRouteSet
  split
  · exact h
  · split
    · exact h.congr rfl rfl rfl
    · exact h

theorem takePinConfig_inRange {s : State} (h : s.InRange) (p : List Byte) : (takePinConfig p s).2.InRange := by
  unfold takePinConfig
  split
  · exact h
  · split
    · exact h.congr rfl rfl rfl
    · exact h

theorem takeRptResend_inRange {s : State} (h : s.InRange) (p : List Byte) : (takeRptResend p s).2.InRange := by
  unfold takeRptResend
  split
  · exact h
  · exact h.congr rfl rfl rfl

theorem perform_inRange {s : State} (h : s.InRange) (f : Frame) : (perform f s).2.InRange := by
  obtain ⟨hinfo, hreset, htb, hch, hrp, hout, hfault, hsm⟩ := query_inRange h f.payload
  unfold perform
  split
  · exact h
  · next kind _ =>
    cases kind with
    | getInfo => exact hinfo
    | getStatus => exact takeGetStatus_inRange h _
    | setLink => exact takeSetLink_inRange h _
    | resetDevice => exact hreset
    | tbConfig => exact takeTbConfig_inRange h _
    | tbStart => exact takeTbStart_inRange h _
    | tbStop => exact takeTbStop_inRange h _
    | tbPeriod => exact takeTbPeriod_inRange h _ _
    | tbQuery => exact htb
    | chQuota => exact takeChQuota_inRange h _
    | segAppend => exact takeSegAppend_inRange h _
    | segReplace => exact takeSegReplace_inRange h _ _
    | chConfig => exact takeChConfig_inRange h _
    | chLevel => exact takeChLevel_inRange h _ _
    | chStart => exact takeChStart_inRange h _
    | chPause => exact takeChPause_inRange h _
    | chResume => exact takeChResume_inRange h _
    | chFlush => exact takeChFlush_inRange h _
    | chQuery => exact hch
    | rpDefine => exact takeRpDefine_inRange h _
    | rpQuery => exact hrp
    | pairConfig => exact takePairConfig_inRange h _
    | routeSet => exact takeRouteSet_inRange h _
    | pinConfig => exact takePinConfig_inRange h _
    | outQuery => exact hout
    | faultConfig => exact takeFaultConfig_inRange h _
    | faultClear => exact takeFaultClear_inRange h _
    | faultQuery => exact hfault
    | smConfig => exact takeSmConfig_inRange h _
    | smQuery => exact hsm
    | rptAck => exact takeRptAck_inRange h _
    | rptResend => exact takeRptResend_inRange h _

/-! ## The link, the handler and the commands -/

theorem State.InRange.arbitrate {s : State} (h : s.InRange) : s.arbitrate.InRange := by
  obtain ⟨l, q, hs⟩ := s.arbitrate_frame
  rw [hs]
  exact h.congr rfl rfl rfl

theorem State.InRange.takeRequest {s : State} (h : s.InRange) : s.takeRequest.InRange := by
  unfold State.takeRequest
  split
  · exact h
  · next f rest _ =>
    unfold State.handle
    split
    · exact (h.modLink _).modLink _
    · exact (perform_inRange (h.modLink _) f).congr rfl rfl rfl

theorem State.InRange.settle {s : State} (h : s.InRange) : s.settle.InRange := by
  unfold State.settle
  generalize Config.inboundSize = n
  induction n generalizing s with
  | zero => exact h.arbitrate
  | succ n ih =>
    unfold State.settleFor
    dsimp only
    split
    · exact ih h.arbitrate.takeRequest
    · exact h.arbitrate

theorem State.InRange.hearHost {s : State} (h : s.InRange) : s.hearHost.InRange := by
  unfold State.hearHost State.deactivateFault
  exact (h.modLink _).modFault _ _

theorem State.InRange.deliver {s : State} (h : s.InRange) (f : Frame) : (s.deliver f).InRange := by
  have hoffer : (s.arbitrate.hearHost.modLink fun l => l.offerFrame f).InRange :=
    h.arbitrate.hearHost.modLink _
  unfold State.deliver
  dsimp only
  split
  · exact hoffer.takeRequest.settle
  · exact hoffer.settle

theorem State.InRange.receiveByte {s : State} (h : s.InRange) (b : Byte) : (s.receiveByte b).InRange := by
  unfold State.receiveByte
  split
  · split
    · exact h.modLink _
    · exact h
  · split
    · exact h.modLink _
    · exact h.modLink _
  · exact h.modLink _
  · exact h.modLink _
  · unfold State.checkFrame
    dsimp only
    split
    · exact (h.modLink _).deliver _
    · exact (h.modLink _).modLink _

theorem receiveRequest_inRange {s : State} (h : s.InRange) (type seq : Byte) (payload : List Byte) :
    (receiveRequest type seq payload s).InRange := by
  unfold receiveRequest
  split
  · exact h
  · exact (h.modLink _).deliver _

theorem State.inRange_afterReset (cause : ResetCause) (s : State) : (s.afterReset cause).InRange where
  tb b := by
    have : (s.afterReset cause).tbs[b] = .reset := Vector.getElem_replicate _
    rw [this]
    simp [Timebase.Inv, Timebase.reset]
  chan c := by
    have : (s.afterReset cause).chans[c] = .reset := Vector.getElem_replicate _
    rw [this]
    simp [Channel.RangeInv, Channel.reset, HeadRun.clear]
  waits p c ha := by
    have : (s.afterReset cause).points[p] = .reset := Vector.getElem_replicate _
    rw [this] at ha
    exact absurd ((ChSet.has_zero c).symm.trans ha) (by decide)

theorem State.InRange.applyTied {s : State} (h : s.InRange) (tied : Tied) : (s.applyTied tied).InRange := by
  cases tied with
  | none => exact h
  | rate => exact h.modLink _
  | softReset => exact State.inRange_afterReset _ _

theorem State.InRange.expire {s : State} (h : s.InRange) (m : MsTimer) : (s.expire m).InRange := by
  cases m with
  | gather p => exact h.expireGathering p
  | window u => exact h.expireWindow u
  | silence => exact (h.modLink _).activateFault _
  | interByte => exact h.modLink _
  | breakDetector => exact h.congr rfl rfl rfl

theorem State.InRange.takeExpiry {s : State} (h : s.InRange) (m : MsTimer) : (s.takeExpiry m).InRange := by
  unfold State.takeExpiry
  dsimp only
  split
  · exact (h.expire m).congr rfl rfl rfl
  · exact h

theorem State.InRange.advanceTimers {s : State} (h : s.InRange) : s.advanceTimers.InRange where
  tb := h.tb
  chan := h.chan
  waits p c ha := by
    refine h.waits p c ?_
    simpa [State.advanceTimers] using ha

theorem State.InRange.tickMillisecond {s : State} (h : s.InRange) : s.tickMillisecond.InRange := by
  refine (h.advanceTimers.forEachInAnyOrder s.dueTimers State.expireIfDue fun m u hu => ?_).congr rfl rfl rfl
  unfold State.expireIfDue
  split
  · exact (hu.expire m).settle
  · exact hu

theorem State.InRange.event {s t : State} (h : s.InRange) {f : State → State} (hf : (f s).InRange)
    (ht : s.event f = .next t) : t.InRange := by
  cases ht
  split
  · exact h
  · exact hf.settle

theorem execTransmitCompletion_inRange {s t : State} (h : s.InRange) (ht : execTransmitCompletion s = .next t) :
    t.InRange := by
  unfold execTransmitCompletion at ht
  split at ht
  · next frame _ _ _ =>
    cases ht
    refine State.InRange.settle ?_
    split
    · exact (h.modLink _).applyTied _
    · exact h.modLink _
  · cases ht; exact h
  · cases ht; exact h

theorem execAbortedFrameEnd_inRange {s t : State} (h : s.InRange) (ht : execAbortedFrameEnd s = .next t) :
    t.InRange := by
  unfold execAbortedFrameEnd at ht
  split at ht <;> cases ht
  · exact (h.modLink _).settle
  · exact h
  · exact h

theorem execPairRiseDelayExpiry_inRange {s t : State} (h : s.InRange) (k : Fin 8)
    (ht : execPairRiseDelayExpiry k s = .next t) : t.InRange := by
  refine h.event ?_ ht
  split
  · exact h.modPair _ _
  · split
    · exact h.modPair _ _
    · exact h

theorem State.InRange.mapUnits {s : State} (h : s.InRange) (f : Fin 4 → SpeedUnit → SpeedUnit) :
    (s.mapUnits f).InRange := h.congr rfl rfl rfl

theorem State.InRange.setInputs {s : State} (h : s.InRange) (lines : InputLines) :
    State.InRange { s with inputs := lines, samplePhase := 0 } := h.congr rfl rfl rfl

theorem State.InRange.setPending {s : State} (h : s.InRange) (cs : List Instr) :
    State.InRange { s with pending := cs } := h.congr rfl rfl rfl

theorem State.InRange.setChoice {s : State} (h : s.InRange) (n : Nat) : State.InRange { s with choice := n } :=
  h.congr rfl rfl rfl

theorem execInputSample_inRange {s t : State} (h : s.InRange) (lines : InputLines)
    (ht : execInputSample lines s = .next t) : t.InRange := by
  refine h.event ?_ ht
  exact ((h.setInputs lines).mapUnits _).sampleFaults _

/-- Every command keeps it: a request by what `perform` does, an event by its own operation. -/
theorem exec_inRange {s t : State} (h : s.InRange) (c : Instr) (ht : exec c s = .next t) : t.InRange := by
  have request (type seq : Byte) (payload : List Byte) (hr : Host.Outcome.next (receiveRequest type seq payload s) =
      (.next t : Host.Outcome State Fault Refusal)) : t.InRange := by
    cases hr
    exact receiveRequest_inRange h _ _ _
  cases c with
  | powerOnReset => cases ht; exact (State.inRange_afterReset _ _).settle
  | rstNAssert => cases ht; exact (State.inRange_afterReset .pin s).congr rfl rfl rfl
  | pinReset => cases ht; exact (State.inRange_afterReset _ _).settle
  | millisecondTick => exact h.event h.tickMillisecond ht
  | timebaseTick b =>
    refine h.event ?_ ht
    split
    · next hrun => exact h.tickTimebase hrun
    · exact h
  | boundary b =>
    refine h.event ?_ ht
    split
    · exact h.boundary _ _
    · exact h
  | pairRiseDelayExpiry k => exact execPairRiseDelayExpiry_inRange h k ht
  | inputSample lines => exact execInputSample_inRange h lines ht
  | gatheringTimerExpiry p => exact h.event (h.takeExpiry _) ht
  | speedWindowExpiry u => exact h.event (h.takeExpiry _) ht
  | hostSilenceExpiry => exact h.event (h.takeExpiry _) ht
  | interByteTimeout => exact h.event (h.takeExpiry _) ht
  | linkBreak => exact h.event (h.takeExpiry _) ht
  | characterReceived b =>
    cases ht
    split
    · exact h
    · exact ((h.modLink _).receiveByte b).settle
  | characterFault =>
    cases ht
    split
    · exact h
    · exact h.modLink _
  | transmitCompletion => exact execTransmitCompletion_inRange h ht
  | abortedFrameEnd => exact execAbortedFrameEnd_inRange h ht
  | rxdRisingEdge => cases ht; exact h.modLink _
  | rxdFallingEdge => cases ht; exact h.modLink _
  | _ => exact request _ _ _ ht

theorem State.InRange.clockPeriod {s : State} (h : s.InRange) : s.clockPeriod.InRange :=
  State.InRange.congr (h.mapTbs fun b => (h.tb b).clock) rfl rfl rfl

theorem step_inRange {s t : State} (h : s.InRange) (ht : step s = .next t) : t.InRange := by
  unfold step at ht
  split at ht
  · exact exec_inRange (h.setPending _) _ ht
  · refine State.idleStep_induction State.InRange s t ht h h.arbitrate.clockPeriod fun c _ n u hu => ?_
    exact exec_inRange (h.setChoice n) c hu

/-- Settles O51: every operation keeps the ranges together with the half of Law 3 that a release needs. -/
theorem stepKeepsTheRanges : Obligations.StepKeepsTheRanges := by
  intro s t hz hr ht
  exact (step_inRange (State.inRange_of_inv hz hr) ht).rangesInv

end Sys2Proof.Machine

namespace Sys2Proof.Machine

/-! # Reading a request: the fields of a payload, and what a ready part answers -/

/-! ## What the arrival of a frame leaves as it is -/

section heard

variable (s : State)

@[simp] theorem State.heard_tbs : s.heard.tbs = s.tbs := rfl
@[simp] theorem State.heard_chans : s.heard.chans = s.chans := rfl
@[simp] theorem State.heard_points : s.heard.points = s.points := rfl
@[simp] theorem State.heard_pairs : s.heard.pairs = s.pairs := rfl
@[simp] theorem State.heard_units : s.heard.units = s.units := rfl

end heard

/-! ## Fields (R158) -/

theorem toNat_ofNat_byte {n : Nat} (h : n < 256) : (BitVec.ofNat 8 n).toNat = n := by
  simpa using Nat.mod_eq_of_lt h

theorem toNat_ofNat_bytes {n : Nat} (h : n < 65536) :
    (BitVec.ofNat 8 n).toNat + 256 * (BitVec.ofNat 8 (n / 256)).toNat = n := by
  simp only [BitVec.toNat_ofNat]
  omega

theorem u8_single (v : Byte) : u8 [v] 0 = v.toNat := rfl

theorem element?_val {n : Nat} (i : Fin n) : element? n i.val = some i := by
  simp [element?]

theorem element?_none {n v : Nat} (h : n ≤ v) : element? n v = none := by
  simp [element?, Nat.not_lt.mpr h]

theorem within?_of {lo hi v : Nat} (h : lo ≤ v ∧ v ≤ hi) : within? lo hi v = some v := if_pos h

theorem within?_none {lo hi v : Nat} (h : ¬(lo ≤ v ∧ v ≤ hi)) : within? lo hi v = none := if_neg h

theorem mark?_toNat (b : Bool) : mark? b.toNat = some b := by cases b <;> rfl

theorem timing?_none {v : Nat} (h : 1 < v) : timing? v = none := by
  match v, h with
  | _ + 2, _ => rfl

/-- A timebase set spelt as a byte has a bit for each member and is in range (R158). -/
theorem tbSetByte_spec (set : List (Fin 4)) :
    (tbSetByte set).toNat < 16 ∧ ∀ b : Fin 4, (tbSetByte set).toNat.testBit b.val = set.contains b := by
  have hsum : ∀ m0 m1 m2 m3 : Bool,
      let n := (BitVec.ofNat 8 ([if m0 then 2 ^ 0 else 0, if m1 then 2 ^ 1 else 0, if m2 then 2 ^ 2 else 0,
        if m3 then 2 ^ 3 else 0] : List Nat).sum).toNat
      n < 16 ∧ n.testBit 0 = m0 ∧ n.testBit 1 = m1 ∧ n.testBit 2 = m2 ∧ n.testBit 3 = m3 := by decide
  obtain ⟨hlt, h0, h1, h2, h3⟩ := hsum (set.contains 0) (set.contains 1) (set.contains 2) (set.contains 3)
  refine ⟨hlt, fun b => ?_⟩
  match b with
  | 0 => exact h0
  | 1 => exact h1
  | 2 => exact h2
  | 3 => exact h3

theorem tbSet?_tbSetByte {set : List (Fin 4)} (h : set ≠ []) :
    tbSet? (tbSetByte set).toNat = some ((List.finRange 4).filter fun b => set.contains b) := by
  obtain ⟨hlt, hbit⟩ := tbSetByte_spec set
  have hne : (tbSetByte set).toNat ≠ 0 := by
    obtain ⟨b, hb⟩ := List.exists_mem_of_ne_nil set h
    intro hz
    have := hbit b
    rw [hz, Nat.zero_testBit] at this
    exact absurd (List.contains_iff_mem.mpr hb) (by rw [← this]; decide)
  rw [tbSet?, if_neg (by omega)]
  simp only [hbit]

theorem tbSet?_none {v : Nat} (h : v = 0 ∨ 16 ≤ v) : tbSet? v = none := if_pos h

/-! ## A request's effect as its answer -/

theorem perform_tbConfig (seq : Byte) (p : List Byte) (s : State) :
    perform (requestFrame seq RequestKind.tbConfig.code p) s = takeTbConfig p s := rfl

theorem perform_tbStart (seq : Byte) (p : List Byte) (s : State) :
    perform (requestFrame seq RequestKind.tbStart.code p) s = takeTbStart p s := rfl

theorem perform_tbStop (seq : Byte) (p : List Byte) (s : State) :
    perform (requestFrame seq RequestKind.tbStop.code p) s = takeTbStop p s := rfl

theorem perform_tbPeriod (seq : Byte) (p : List Byte) (s : State) :
    perform (requestFrame seq RequestKind.tbPeriod.code p) s = takeTbPeriod seq p s := rfl

theorem perform_tbQuery (seq : Byte) (p : List Byte) (s : State) :
    perform (requestFrame seq RequestKind.tbQuery.code p) s = takeTbQuery p s := rfl

theorem perform_rpQuery (seq : Byte) (p : List Byte) (s : State) :
    perform (requestFrame seq RequestKind.rpQuery.code p) s = takeRpQuery p s := rfl

theorem perform_faultQuery (seq : Byte) (p : List Byte) (s : State) :
    perform (requestFrame seq RequestKind.faultQuery.code p) s = takeFaultQuery p s := rfl

theorem perform_smQuery (seq : Byte) (p : List Byte) (s : State) :
    perform (requestFrame seq RequestKind.smQuery.code p) s = takeSmQuery p s := rfl

/-- A request that `perform` refuses is refused by a ready part. -/
theorem refused_of_perform {k : RequestKind} {seq : Byte} {p : List Byte} {s : State} {st : Status}
    (h : s.Ready (k.command seq p)) (hp : perform (requestFrame seq k.code p) s.heard = refuse st s.heard) :
    Refused (k.command seq p) s st :=
  answered_of_perform k seq p s s.heard _ h hp

/-- A request that `perform` accepts is answered so by a ready part. -/
theorem accepted_of_perform {k : RequestKind} {seq : Byte} {p : List Byte} {s t : State} {st : Status}
    {payload : List Byte} (h : s.Ready (k.command seq p))
    (hp : perform (requestFrame seq k.code p) s.heard = accept st payload t) :
    Answered (k.command seq p) s st payload .none t :=
  answered_of_perform k seq p s t _ h hp

/-! # O10 and O13: TB_CONFIG and TB_PERIOD -/

/-- A pending period is dropped and the record changed at the same time, with the report the drop may owe. -/
def State.changePeriod (b : Fin 4) (f : Timebase → Timebase) (s : State) : State :=
  (s.modTb b fun tb => f { tb with pendingPeriod := none }).offerIf s.tbs[b].notifySeq
    fun seq => .superseded seq (.tbPeriod b)

/-- Dropping a pending period and then changing the record is one change of the record (R8 to R12). -/
theorem State.dropPendingPeriod_modTb (b : Fin 4) (f : Timebase → Timebase) (s : State) :
    (s.dropPendingPeriod b).modTb b f = s.changePeriod b f := by
  have hset : ((s.modTb b fun tb => { tb with pendingPeriod := none }).modTb b f) =
      s.modTb b fun tb => f { tb with pendingPeriod := none } := by
    simp [State.modTb]
  have hcomm (n : Option Byte) (r : Byte → Report) (u : State) :
      (u.offerIf n r).modTb b f = (u.modTb b f).offerIf n r := by
    cases n <;> rfl
  rw [State.dropPendingPeriod, hcomm, hset, State.changePeriod]

theorem tbConfig_fields {n d P : Nat} (hn : n < 256) (hd : d < 256) (hP : P < 65536) :
    let p := le8 n ++ le8 d ++ le16 P
    p.length = 4 ∧ u8 p 0 = n ∧ u8 p 1 = d ∧ u16 p 2 = P :=
  ⟨rfl, toNat_ofNat_byte hn, toNat_ofNat_byte hd, toNat_ofNat_bytes hP⟩

theorem takeTbConfig_badArg {p : List Byte} {s : State} (hlen : p.length = 4)
    (h : ¬(u8 p 0 ≤ 3 ∧ u8 p 1 ∈ [1, 2, 4, 8, 16, 32, 64, 128] ∧ 16 ≤ u16 p 2 ∧ u16 p 2 ≤ 4096)) :
    takeTbConfig p s = refuse .badArg s := by
  rw [takeTbConfig, if_neg (not_not.mpr hlen)]
  split
  · next b d period hb hd hp =>
    refine absurd ⟨?_, ?_, ?_⟩ h
    · by_contra hlt
      exact absurd (hb.symm.trans (element?_none (by omega))) (by simp)
    · by_contra hnot
      exact absurd (hd.symm.trans (if_neg hnot)) (by simp)
    · by_contra hnot
      exact absurd (hp.symm.trans (within?_none hnot)) (by simp)
  · rfl

theorem takeTbConfig_inArg {p : List Byte} {s : State} {b : Fin 4} (hlen : p.length = 4) (hb : u8 p 0 = b.val)
    (hd : u8 p 1 ∈ [1, 2, 4, 8, 16, 32, 64, 128]) (hP : 16 ≤ u16 p 2 ∧ u16 p 2 ≤ 4096) :
    takeTbConfig p s =
      if s.tbs[b].state = .running then refuse .state s
      else accept .ok [] (s.changePeriod b fun tb => { tb with divider := u8 p 1, period := u16 p 2 }) := by
  have hdiv : divider? (u8 p 1) = some (u8 p 1) := if_pos hd
  have hper : period? (u16 p 2) = some (u16 p 2) := within?_of hP
  rw [takeTbConfig, if_neg (not_not.mpr hlen), hb, element?_val, hdiv, hper]
  simp only [State.dropPendingPeriod_modTb]

/-- Settles O10: the fields are read back from the payload, and the range tests are those of R8. -/
theorem tbConfigEffect : Obligations.TbConfigEffect := by
  intro s seq n d P hn hd hP c inRange hready
  obtain ⟨hlen, h0, h1, h2⟩ := tbConfig_fields hn hd hP
  refine ⟨fun hbad => refused_of_perform (k := .tbConfig) hready ?_, fun b hb hin => ?_⟩
  · rw [perform_tbConfig]
    exact takeTbConfig_badArg hlen (by rw [h0, h1, h2]; exact hbad)
  · have htake := takeTbConfig_inArg (s := s.heard) (b := b) hlen (h0.trans hb) (by rw [h1]; exact hin.1)
      (by rw [h2]; exact hin.2)
    rw [h1, h2] at htake
    refine ⟨fun hrun => refused_of_perform (k := .tbConfig) hready (htake.trans (if_pos hrun)), fun hhalt => ?_⟩
    have hnot : ¬ s.heard.tbs[b].state = .running := by
      rw [State.heard_tbs, hhalt]
      decide
    exact accepted_of_perform (k := .tbConfig) hready (htake.trans (if_neg hnot))

theorem tbPeriod_fields {n P timing : Nat} {notify : Bool} (hn : n < 256) (hP : P < 65536) (ht : timing < 256) :
    let p := le8 n ++ le16 P ++ le8 timing ++ flagByte notify
    p.length = 5 ∧ u8 p 0 = n ∧ u16 p 1 = P ∧ u8 p 3 = timing ∧ u8 p 4 = notify.toNat :=
  ⟨rfl, toNat_ofNat_byte hn, toNat_ofNat_bytes hP, toNat_ofNat_byte ht,
    toNat_ofNat_byte (by cases notify <;> decide)⟩

theorem takeTbPeriod_badArg {seq : Byte} {p : List Byte} {s : State} (hlen : p.length = 5)
    (h : ¬(u8 p 0 ≤ 3 ∧ 16 ≤ u16 p 1 ∧ u16 p 1 ≤ 4096 ∧ u8 p 3 ≤ 1)) :
    takeTbPeriod seq p s = refuse .badArg s := by
  rw [takeTbPeriod, if_neg (not_not.mpr hlen)]
  split
  · next b period timing notify hb hp ht hn =>
    have h0 : u8 p 0 ≤ 3 := by
      by_contra hlt
      exact absurd (hb.symm.trans (element?_none (by omega))) (by simp)
    have h1 : 16 ≤ u16 p 1 ∧ u16 p 1 ≤ 4096 := by
      by_contra hnot
      exact absurd (hp.symm.trans (within?_none hnot)) (by simp)
    have h3 : u8 p 3 ≤ 1 := by
      by_contra hlt
      exact absurd (ht.symm.trans (timing?_none (by omega))) (by simp)
    exact absurd ⟨h0, h1.1, h1.2, h3⟩ h
  · rfl

/-- TB_PERIOD with its fields in range, by the timebase's state and the timing (Table 9). -/
theorem takeTbPeriod_inArg {seq : Byte} {p : List Byte} {s : State} {b : Fin 4} {timing : Timing} {notify : Bool}
    (hlen : p.length = 5) (hb : u8 p 0 = b.val) (hP : 16 ≤ u16 p 1 ∧ u16 p 1 ≤ 4096)
    (ht : timing? (u8 p 3) = some timing) (hn : u8 p 4 = notify.toNat) :
    (s.tbs[b].state = .halted →
      takeTbPeriod seq p s = accept .ok [] (s.changePeriod b fun tb => { tb with period := u16 p 1 })) ∧
    (s.tbs[b].state = .running → timing = .boundary →
      takeTbPeriod seq p s = accept .pending [] (s.changePeriod b fun tb => { tb with
        pendingPeriod := some { period := u16 p 1, notify := if notify then some seq else none } })) ∧
    (s.tbs[b].state = .running → timing = .now →
      takeTbPeriod seq p s = if s.tbs[b].counter < u16 p 1 then
          accept .ok [] (s.changePeriod b fun tb => { tb with period := u16 p 1 })
        else accept .ok [] ((s.changePeriod b fun tb => { tb with period := u16 p 1, stretch := true }).offer
          (.periodStretched b s.tbs[b].counter (u16 p 1)))) := by
  have hper : period? (u16 p 1) = some (u16 p 1) := within?_of hP
  have hmark : mark? (u8 p 4) = some notify := by rw [hn, mark?_toNat]
  rw [takeTbPeriod, if_neg (not_not.mpr hlen), hb, element?_val, hper, ht, hmark]
  refine ⟨fun hhalt => ?_, fun hrun hboundary => ?_, fun hrun hnow => ?_⟩
  · simp only [hhalt, State.dropPendingPeriod_modTb]
  · simp only [hrun, hboundary, State.dropPendingPeriod_modTb]
  · simp only [hrun, hnow, State.dropPendingPeriod_modTb]

/-- Settles O13: the four rows of Table 9. -/
theorem tbPeriodEffect : Obligations.TbPeriodEffect := by
  intro s seq n P timing notify hn hP ht c inRange hready
  obtain ⟨hlen, h0, h1, h3, h4⟩ := tbPeriod_fields (notify := notify) hn hP ht
  refine ⟨fun hbad => refused_of_perform (k := .tbPeriod) hready ?_, fun b hb hin => ?_⟩
  · rw [perform_tbPeriod]
    exact takeTbPeriod_badArg hlen (by rw [h0, h1, h3]; exact hbad)
  · intro dropped
    obtain ⟨hlo, hhi, hle⟩ := hin
    have htake (tm : Timing) (htm : timing? timing = some tm) :=
      takeTbPeriod_inArg (seq := seq) (s := s.heard) (b := b) hlen (h0.trans hb) (by rw [h1]; exact ⟨hlo, hhi⟩)
        (by rw [h3]; exact htm) h4
    rw [h1, State.heard_tbs] at htake
    refine ⟨fun hhalt => ?_, fun hrun hzero => ?_, fun hrun hone hlt => ?_, fun hrun hone hge => ?_⟩
    · obtain ⟨tm, htm⟩ : ∃ tm, timing? timing = some tm := by
        match timing, hle with
        | 0, _ => exact ⟨_, rfl⟩
        | 1, _ => exact ⟨_, rfl⟩
      obtain ⟨hacc, _⟩ := htake tm htm
      exact accepted_of_perform (k := .tbPeriod) hready (hacc hhalt)
    · obtain ⟨_, hacc, _⟩ := htake .boundary (hzero ▸ rfl)
      exact accepted_of_perform (k := .tbPeriod) hready (hacc hrun rfl)
    · obtain ⟨_, _, hacc⟩ := htake .now (hone ▸ rfl)
      exact accepted_of_perform (k := .tbPeriod) hready ((hacc hrun rfl).trans (if_pos hlt))
    · obtain ⟨_, _, hacc⟩ := htake .now (hone ▸ rfl)
      exact accepted_of_perform (k := .tbPeriod) hready ((hacc hrun rfl).trans (if_neg (Nat.not_lt.mpr hge)))

/-! # O28: the queries -/

theorem Timebase.payload_bytes (tb : Timebase) :
    tb.payload = le8 tb.state.code ++ le8 tb.divider ++ le16 tb.period ++
      (match tb.pendingPeriod with
        | none => [0, 0, 0, 0, 0]
        | some q => [1] ++ le16 q.period ++ notifyBytes q.notify) ++
      le16 tb.counter ++ le8 tb.slot.toNat ++ le32 tb.periodCount.toNat ++ flagByte tb.stretch := by
  unfold Timebase.payload
  cases tb.pendingPeriod <;> rfl

theorem Point.payload_bytes (p : Point) :
    p.payload = le16 p.members.toNat ++ le16 p.arrived.toNat ++ le8 p.generation.toNat ++ le16 p.timeout ++
      match p.timer with
        | none => [0, 0, 0]
        | some e => [1] ++ le16 e := by
  unfold Point.payload
  cases p.timer <;> rfl

theorem State.faultPayload_bytes (s : State) (f : Fin 4) :
    s.faultPayload f = le8 s.faults[f].action.code ++ le16 s.faults[f].chans.toNat ++
      (match s.faults[f].input with
        | none => [0, 0, 0]
        | some i => le8 i.polarity.code ++ le8 i.filter ++ le8 i.run) ++
      flagByte s.faults[f].active ++ flagByte s.faults[f].latched ++ le16 (s.coveredSet f).toNat := by
  unfold State.faultPayload
  cases s.faults[f].input <;> rfl

theorem SpeedUnit.payload_bytes (u : SpeedUnit) :
    u.payload = le8 u.state.code ++ le8 u.edge.code ++ le16 u.window ++
      (match u.timer with
        | none => [0, 0, 0]
        | some e => [1] ++ le16 e) ++
      le16 u.edges ++ le16 u.last ++ le16 u.minCount ++ le16 u.maxCount ++ le8 u.limit ++ flagByte u.inRange ++
      le8 u.streak ++ flagByte u.linked ++ flagByte u.limitReported ++ flagByte u.asserting := by
  unfold SpeedUnit.payload
  cases u.timer <;> rfl

/-- Settles O28: each query is a length test, a number test and the record's bytes. -/
theorem queriesGiveTheRecords : Obligations.QueriesGiveTheRecords := by
  refine ⟨fun s seq p hlen hready => ?_, fun s seq p hlen hready => ?_,
    fun s seq n hready => ⟨fun hbad => ?_, fun b hb => ?_⟩, fun s seq n hready => ⟨fun hbad => ?_, fun p hp => ?_⟩,
    fun s seq n hready => ⟨fun hbad => ?_, fun f hf => ?_⟩,
    fun s seq n hready => ⟨fun hbad => ?_, fun i hi => ?_⟩⟩
  · exact refused_of_perform (k := .faultQuery) hready (if_pos hlen)
  · exact refused_of_perform (k := .smQuery) hready (if_pos hlen)
  · refine refused_of_perform (k := .tbQuery) hready ?_
    simp [perform_tbQuery, takeTbQuery, u8_single, element?_none hbad]
  · refine accepted_of_perform (k := .tbQuery) hready ?_
    rw [perform_tbQuery, takeTbQuery, u8_single, hb, element?_val]
    exact congrArg (accept .ok · s.heard) (Timebase.payload_bytes s.tbs[b])
  · refine refused_of_perform (k := .rpQuery) hready ?_
    simp [perform_rpQuery, takeRpQuery, u8_single, element?_none hbad]
  · refine accepted_of_perform (k := .rpQuery) hready ?_
    rw [perform_rpQuery, takeRpQuery, u8_single, hp, element?_val]
    exact congrArg (accept .ok · s.heard) (Point.payload_bytes s.points[p])
  · refine refused_of_perform (k := .faultQuery) hready ?_
    simp [perform_faultQuery, takeFaultQuery, u8_single, element?_none hbad]
  · refine accepted_of_perform (k := .faultQuery) hready ?_
    rw [perform_faultQuery, takeFaultQuery, u8_single, hf, element?_val]
    exact congrArg (accept .ok · s.heard) (s.heard.faultPayload_bytes f)
  · refine refused_of_perform (k := .smQuery) hready ?_
    simp [perform_smQuery, takeSmQuery, u8_single, element?_none hbad]
  · refine accepted_of_perform (k := .smQuery) hready ?_
    rw [perform_smQuery, takeSmQuery, u8_single, hi, element?_val]
    exact congrArg (accept .ok · s.heard) (SpeedUnit.payload_bytes s.units[i])

end Sys2Proof.Machine

namespace Sys2Proof.Machine

/-! # O12: TB_STOP -/

theorem getFin_ofFn {n : Nat} {α : Type} (f : Fin n → α) (i : Fin n) : (Vector.ofFn f)[i] = f i := by simp

theorem contains_filter_finRange (set : List (Fin 4)) (b : Fin 4) :
    ((List.finRange 4).filter fun j => set.contains j).contains b = set.contains b := by
  rw [Bool.eq_iff_iff]
  simp

/-- TB_STOP with its set in range: each RUNNING timebase of the set halts and takes its enabled pairs low (R7, R84). -/
theorem takeTbStop_set {set : List (Fin 4)} (h : set ≠ []) (s : State) :
    takeTbStop [tbSetByte set] s = accept .ok [] { s with
      tbs := Vector.ofFn fun b =>
        if set.contains b && s.tbs[b].state == .running then
          { s.tbs[b] with state := .halted, counter := 0, stretch := false }
        else s.tbs[b]
      pairs := Vector.ofFn fun k =>
        if s.pairs[k].enabled && set.contains s.chans[evenOf k].tb && s.tbs[s.chans[evenOf k].tb].state == .running then
          { s.pairs[k] with a := false, b := false, riseA := none, riseB := none }
        else s.pairs[k] } := by
  have htb (b : Fin 4) : (if set.contains b then s.tbs[b].stop else s.tbs[b]) =
      if set.contains b && s.tbs[b].state == .running then
        { s.tbs[b] with state := .halted, counter := 0, stretch := false }
      else s.tbs[b] := by
    unfold Timebase.stop
    cases set.contains b <;> cases s.tbs[b].state <;> rfl
  rw [takeTbStop, if_neg (by simp), u8_single, tbSet?_tbSetByte h]
  simp only [contains_filter_finRange, State.mapTbs, State.haltPairs, State.mapPairs, htb, ← Bool.and_assoc, Pair.low]

/-- Settles O12: a bound channel's signal is low because its timebase is HALTED, before or by the request (R18). -/
theorem tbStopEffect : Obligations.TbStopEffect := by
  refine ⟨fun s seq v hv hready => refused_of_perform (k := .tbStop) hready ?_, fun s seq set hne => ?_⟩
  · simp [perform_tbStop, takeTbStop, u8_single, tbSet?_none hv]
  · intro c t hready
    refine ⟨accepted_of_perform (k := .tbStop) hready (takeTbStop_set hne s.heard), fun x hx => ?_⟩
    have hhalt : t.tbs[s.chans[x].tb].state = .halted := by
      simp only [t, getFin_ofFn, List.contains_iff_mem.mpr hx, Bool.true_and]
      split
      · rfl
      · next hnot =>
        cases hst : s.tbs[s.chans[x].tb].state with
        | halted => rfl
        | running => exact absurd (by rw [hst]; rfl) hnot
    show Channel.signalOn s.chans[x] t.tbs[s.chans[x].tb] = false
    rw [Channel.signalOn, hhalt]

/-! # O31: a tick of a timebase -/

/-- What is settled stays so while the frames of the link and the report queue are the same. -/
theorem State.Settled.of_eq {s t : State} (h : s.Settled) (htx : t.link.tx = s.link.tx)
    (hh : t.link.holding = s.link.holding) (hi : t.link.inbound = s.link.inbound) (hr : t.reports = s.reports) :
    t.Settled := by
  simpa only [State.Settled, State.reportEligible, htx, hh, hi, hr] using h

/-- An event of a running part that leaves a settled state. -/
theorem State.event_of_settled {s t : State} {f : State → State} (hheld : s.held = false) (hf : f s = t)
    (ht : t.Settled) : s.event f = .next t := by
  rw [State.event, hheld, hf]
  simp [State.settle_of_settled t ht]

/-- A tick that is no boundary moves the counter and reaches the pairs bound to the timebase (R3, R81, R82). -/
theorem State.tickTimebase_moves {s : State} {b : Fin 4} (hrun : s.tbs[b].state = .running)
    (hne : s.tbs[b].counter + 1 ≠ s.tbs[b].period) :
    s.tickTimebase b = { s.modTb b Timebase.count with
      pairs := Vector.ofFn fun k =>
        if s.pairs[k].enabled = true ∧ s.chans[evenOf k].tb = b ∧ s.chans[evenOf k].forced = false then
          s.pairs[k].tick (s.basicSignal (evenOf k)) ((s.modTb b Timebase.count).basicSignal (evenOf k))
        else s.pairs[k] } := by
  have hend : s.tbs[b].atEnd = false := decide_eq_false hne
  have hcond (k : Fin 8) :
      ((s.modTb b Timebase.count).pairActs k && (s.modTb b Timebase.count).chans[evenOf k].tb == b) = true ↔
        s.pairs[k].enabled = true ∧ s.chans[evenOf k].tb = b ∧ s.chans[evenOf k].forced = false := by
    by_cases hb : s.chans[evenOf k].tb = b
    · have hcount : s.tbs[b].count.state = .running := hrun
      simp [State.pairActs, State.onRunningTb, hb, hcount, -Fin.getElem_fin]
    · simp [hb, -Fin.getElem_fin]
  rw [State.tickTimebase, hend, if_neg (by decide)]
  simp only [State.tickPairs, State.mapPairs, hcond, State.modTb_pairs]

/-- Settles O31: by the timebase's state, and in a running one by whether the tick ends the period. -/
theorem timebaseTickEffect : Obligations.TimebaseTickEffect := by
  intro s b hheld hs
  refine ⟨fun hhalt => ?_, fun hrun hend => ?_, fun hrun hne => ?_⟩
  · exact State.event_of_settled hheld (if_neg (by rw [hhalt]; decide)) hs
  · have hat : s.tbs[b].atEnd = true := decide_eq_true hend
    show s.event _ = s.event _
    simp [State.event, hrun, hat, State.tickTimebase, -Fin.getElem_fin]
  · intro moved
    refine State.event_of_settled hheld ?_ (hs.of_eq rfl rfl rfl rfl)
    rw [if_pos hrun, State.tickTimebase_moves hrun hne]
    rfl

/-! # O47: the duty -/

theorem Channel.width_eq (ch : Channel) (slot : BitVec 4) :
    ch.width slot = ch.dutyI + if rev4 slot < ch.dutyF then 1 else 0 := by
  unfold Channel.width
  split <;> rfl

theorem rev4_slots : ((List.finRange 16).map fun i => rev4 (BitVec.ofFin i)) =
    [0, 8, 4, 12, 2, 10, 6, 14, 1, 9, 5, 13, 3, 11, 7, 15] := by decide

/-- Every F below 16 has F slots whose reversed number is below it (R16). -/
theorem slots_below : ∀ F : Fin 16,
    ((List.finRange 16).map fun i => if rev4 (BitVec.ofFin i) < F.val then 1 else 0).sum = F.val := by decide

/-- Settles O47: a sixteenth is drawn as a whole tick in F of sixteen slots. -/
theorem dutyIsSpreadOverSixteenSlots : Obligations.DutyIsSpreadOverSixteenSlots := by
  intro ch P hlevel d Q
  have hF : Q % 16 < 16 := Nat.mod_lt _ (by decide)
  have hQ : Q ≤ 16 * P := by
    have : ch.level * P ≤ 4096 * P := Nat.mul_le_mul_right P hlevel
    omega
  have hI : d.dutyI = Q / 16 := rfl
  have hF' : d.dutyF = Q % 16 := rfl
  refine ⟨rfl, rfl, fun slot => ?_, ?_, rev4_slots⟩
  · rw [Channel.width_eq, hI, hF']
    split <;> omega
  · have hsum := slots_below ⟨Q % 16, hF⟩
    simp only [Channel.width_eq, hI, hF', List.sum_map_add, hsum]
    simp only [List.map_const', List.sum_replicate, List.length_finRange, smul_eq_mul]
    omega

/-! # O2: the empty queue -/

theorem two_mul_middleOf (n : Nat) : n ≤ 2 * middleOf n + 1 ∧ 2 * middleOf n ≤ n + 1 := by
  have hup := Bool.toNat_le (Config.middleUp n)
  unfold middleOf
  split
  · omega
  · next hodd =>
    have : n % 2 ≠ 0 := hodd
    omega

/-- The bits of a byte, the least significant first, add up to it. -/
theorem byteOfBits_getLsbD (start : Bool) (b : Byte) :
    byteOfBits (start :: (List.range 8).map b.getLsbD) = b := by
  have hbits : ∀ n : Nat, n < 256 →
      (n.testBit 0).toNat + (n.testBit 1).toNat * 2 + (n.testBit 2).toNat * 4 + (n.testBit 3).toNat * 8 +
        (n.testBit 4).toNat * 16 + (n.testBit 5).toNat * 32 + (n.testBit 6).toNat * 64 +
        (n.testBit 7).toNat * 128 = n := by
    intro n hn
    simp only [Nat.toNat_testBit]
    omega
  apply BitVec.eq_of_toNat_eq
  have := hbits b.toNat b.isLt
  simp [byteOfBits, List.range_succ, BitVec.getLsbD, -Nat.testBit_zero]
  omega

/-- Settles O2: the events due are `mem_clockEvents`; with none due the arbiter of a settled part chooses nothing. -/
theorem emptyQueuePassesOneReferencePeriod : Obligations.EmptyQueuePassesOneReferencePeriod := by
  refine ⟨fun s hq hheld hs => ?_, fun rate i => ?_, byteOfBits_getLsbD⟩
  · intro due
    have hstep : step s = s.idleStep := by simp [step, hq]
    rw [hstep]
    refine ⟨fun ⟨c, hc⟩ => ?_, fun hnone => ?_⟩
    · obtain ⟨e, he, n, hrun⟩ := s.idleStep_of_due hheld (List.ne_nil_of_mem ((s.mem_clockEvents c).mpr hc))
      exact ⟨e, n, (s.mem_clockEvents e).mp he, hrun⟩
    · have hnil : s.clockEvents = [] :=
        List.eq_nil_iff_forall_not_mem.mpr fun c hc => hnone c ((s.mem_clockEvents c).mp hc)
      have htb (tb : Timebase) : tb.clock =
          if tb.state = .running then { tb with prescaler := tb.prescaler + 1 } else tb := by
        unfold Timebase.clock
        cases tb.state <;> rfl
      rw [s.idleStep_of_none_due hheld hnil, State.arbitrate_of_settled s hs]
      simp only [State.clockPeriod, State.mapTbs, htb]
      cases s.link.tx <;> rfl
  · have := two_mul_middleOf rate.bitTime
    unfold sampleAge
    have hexp : rate.bitTime * (2 * i + 1) = 2 * (rate.bitTime * i) + rate.bitTime := by ring
    omega

/-! # O30: the millisecond tick -/

theorem MsTimer.mem_all (m : MsTimer) : m ∈ MsTimer.all := by
  cases m <;> simp [MsTimer.all]

theorem MsTimer.nodup_all : MsTimer.all.Nodup := by decide

theorem State.mem_dueTimers (s : State) (m : MsTimer) : m ∈ s.dueTimers ↔ s.due m = true ∧ m ∉ s.msDone := by
  simp [State.dueTimers, State.untaken, MsTimer.mem_all]

/-- The limit of a timer by its kind; the break detector has no count of this form. -/
theorem State.due_gather (s : State) (p : Fin 8) :
    s.due (.gather p) = s.points[p].timer.any fun e => decide (s.points[p].timeout ≤ e + 1) := by
  rw [State.due]
  cases s.points[p].timer <;> rfl

theorem State.due_window (s : State) (u : Fin 4) :
    s.due (.window u) = s.units[u].timer.any fun e => decide (s.units[u].window ≤ e + 1) := by
  rw [State.due]
  cases s.units[u].timer <;> rfl

theorem State.due_silence (s : State) :
    s.due .silence = s.link.silenceTimer.any fun e => decide (s.link.silenceLimit ≤ e + 1) := by
  rw [State.due]
  cases s.link.silenceTimer <;> rfl

theorem State.due_interByte (s : State) : s.due .interByte = s.link.interByte.any fun e => decide (5 ≤ e + 1) := by
  rw [State.due]
  cases s.link.interByte <;> rfl

theorem State.due_breakDetector (s : State) :
    s.due .breakDetector = (s.link.rxd == false && s.link.breakCount + 1 == 20) := by
  rw [State.due]
  cases s.link.rxd <;> rfl

/-- The count of a running timer after a tick: it stays where its part is taken or the tick is its expiry. -/
def State.counted (s : State) (m : MsTimer) (limit : Nat) (timer : Option Nat) : Option Nat :=
  timer.map fun e => if m ∈ s.msDone ∨ limit ≤ e + 1 then e else e + 1

theorem State.countMs_counts {s : State} {m : MsTimer} {limit : Nat} {timer : Option Nat}
    (hdue : s.due m = timer.any fun e => decide (limit ≤ e + 1)) :
    countMs (s.counts m) timer = s.counted m limit timer := by
  cases timer with
  | none => simp [countMs, State.counted]
  | some e =>
    by_cases hm : m ∈ s.msDone <;> by_cases hl : limit ≤ e + 1 <;>
      simp [countMs, State.counts, State.untaken, State.counted, hdue, hm, hl]

theorem State.advanceTimers_counts (s : State) :
    s.advanceTimers = { s with
      points := Vector.ofFn fun p =>
        { s.points[p] with timer := s.counted (.gather p) s.points[p].timeout s.points[p].timer }
      units := Vector.ofFn fun u =>
        { s.units[u] with timer := s.counted (.window u) s.units[u].window s.units[u].timer }
      link := { s.link with
        silenceTimer := s.counted .silence s.link.silenceLimit s.link.silenceTimer
        interByte := s.counted .interByte 5 s.link.interByte
        breakCount :=
          if MsTimer.breakDetector ∉ s.msDone ∧ s.link.rxd = false ∧ s.link.breakCount + 1 < 20 then
            s.link.breakCount + 1
          else s.link.breakCount } } := by
  have hbreak : (s.counts .breakDetector && !s.link.rxd && decide (s.link.breakCount < Config.breakLimit)) = true ↔
      MsTimer.breakDetector ∉ s.msDone ∧ s.link.rxd = false ∧ s.link.breakCount + 1 < 20 := by
    have hlimit : Config.breakLimit = 20 := rfl
    simp only [State.counts, State.untaken, State.due_breakDetector]
    cases s.link.rxd <;> by_cases hm : MsTimer.breakDetector ∈ s.msDone <;> simp [hm]
    omega
  unfold State.advanceTimers
  simp only [State.countMs_counts (s.due_gather _), State.countMs_counts (s.due_window _),
    State.countMs_counts s.due_silence, State.countMs_counts s.due_interByte, hbreak]

/-- At a tick at which no timer is due, and none was taken ahead of it, every running timer counts. -/
theorem State.advanceTimers_of_none_due {s : State} (hdone : s.msDone = []) (hnone : ∀ m, s.due m = false) :
    s.advanceTimers = { s with
      points := Vector.ofFn fun p => { s.points[p] with timer := s.points[p].timer.map (· + 1) }
      units := Vector.ofFn fun u => { s.units[u] with timer := s.units[u].timer.map (· + 1) }
      link := { s.link with
        silenceTimer := s.link.silenceTimer.map (· + 1)
        interByte := s.link.interByte.map (· + 1)
        breakCount := if s.link.rxd = false ∧ s.link.breakCount < 20 then s.link.breakCount + 1
          else s.link.breakCount } } := by
  have hcounts (m : MsTimer) : s.counts m = true := by simp [State.counts, State.untaken, hnone, hdone]
  simp only [State.advanceTimers, hcounts, countMs, if_true, Bool.true_and, Bool.and_eq_true, Bool.not_eq_true',
    decide_eq_true_eq]
  rfl

theorem State.expire_msDone (m : MsTimer) (s : State) : (s.expire m).msDone = s.msDone := by
  cases m with
  | gather p => exact (expireGathering_background p s).msDone
  | window u => exact (expireWindow_background u s).msDone
  | silence => exact (activateFault_background silence _).msDone
  | interByte => rfl
  | breakDetector => rfl

/-- Settles O30: the timers not due count (`advanceTimers_counts`); the due ones are taken in the order drawn. -/
theorem millisecondTickEffect : Obligations.MillisecondTickEffect := by
  unfold Obligations.MillisecondTickEffect
  intro due row
  have hdue : due = State.due := by
    funext u m
    cases m with
    | gather p => exact (u.due_gather p).symm
    | window v => exact (u.due_window v).symm
    | silence => exact u.due_silence.symm
    | interByte => exact u.due_interByte.symm
    | breakDetector => exact u.due_breakDetector.symm
  rw [hdue]
  refine ⟨fun s hheld hs => ⟨fun hdone hnone => ?_, ?_⟩, fun s m hheld hm hfresh => ?_⟩
  · have hnil : s.dueTimers = [] :=
      List.eq_nil_iff_forall_not_mem.mpr fun m hm => by
        simpa [hnone m] using (s.mem_dueTimers m).mp hm
    refine State.event_of_settled hheld ?_ (hs.of_eq rfl rfl rfl rfl)
    simp only [State.tickMillisecond, hnil, forEachInAnyOrder_nil, State.advanceTimers_of_none_due hdone hnone, hdone]
  · obtain ⟨order, n, hperm, horder⟩ := forEachInAnyOrder_eq s.dueTimers State.expireIfDue s.advanceTimers
    refine ⟨order, n, hperm.nodup_iff.mpr (MsTimer.nodup_all.filter _), fun m => ?_, ?_⟩
    · rw [hperm.mem_iff, State.mem_dueTimers]
    · intro count counted
      have hcounted : { s.advanceTimers with choice := n } = counted := by
        rw [s.advanceTimers_counts]
        rfl
      show s.event State.tickMillisecond = _
      rw [State.event, hheld, State.tickMillisecond, horder, hcounted]
      rfl
  · have htake : s.takeExpiry m = { s.expire m with msDone := m :: (s.expire m).msDone } := by
      simp [State.takeExpiry, hm, State.untaken, hfresh]
    have hrow : exec (row m) s = s.event (State.takeExpiry m) := by cases m <;> rfl
    rw [hrow, State.event, hheld, htake, State.expire_msDone]
    rfl

end Sys2Proof.Machine

namespace Sys2Proof.Machine

/-! # O33 and O11: boundaries

The parts of a boundary are taken in a free order, so the proofs do not follow an order. `Reaches` says what the handling
of some channels leaves as it is elsewhere; it composes along any sequence of parts. The result for one channel then comes
from the one place at which the channel is handled, and from what the parts before and after it leave. -/

/-! ## What handling a channel leaves of the others -/

/-- What no boundary changes of a channel. -/
structure Channel.SameSettings (ch new : Channel) : Prop where
  quota : new.quota = ch.quota
  locked : new.locked = ch.locked
  tb : new.tb = ch.tb
  mode : new.mode = ch.mode
  safe : new.safe = ch.safe

theorem Channel.SameSettings.refl (ch : Channel) : ch.SameSettings ch := ⟨rfl, rfl, rfl, rfl, rfl⟩

theorem Channel.SameSettings.trans {a b c : Channel} (h : a.SameSettings b) (g : b.SameSettings c) :
    a.SameSettings c :=
  ⟨g.1.trans h.1, g.2.trans h.2, g.3.trans h.3, g.4.trans h.4, g.5.trans h.5⟩

theorem Channel.release_release (ch : Channel) (m n : BitVec 32) : (ch.release m).release n = ch.release n := by
  unfold Channel.release
  by_cases h : ch.state = .waiting <;> simp [h]

/-- The channel is the same, or it is a member of a point and has been released (R49). -/
def State.AtMostReleased (s t : State) (x : Fin 16) : Prop :=
  t.chans[x] = s.chans[x] ∨
    (∃ p : Fin 8, s.points[p].members.has x = true) ∧ ∃ n, t.chans[x] = s.chans[x].release n

/-- Timebases other than those of `B`, channels other than those of `P` and pairs other than those of `K` are left as they
are, but for releases; and so are the settings of every channel, the fault sources and the units. -/
structure Reaches (B : Fin 4 → Prop) (P : Fin 16 → Prop) (K : Fin 8 → Prop) (s t : State) : Prop where
  tbs : ∀ j : Fin 4, ¬B j → t.tbs[j] = s.tbs[j]
  faults : t.faults = s.faults
  units : t.units = s.units
  members : ∀ p : Fin 8, t.points[p].members = s.points[p].members
  enabled : ∀ k : Fin 8, t.pairs[k].enabled = s.pairs[k].enabled
  pairs : ∀ k : Fin 8, ¬K k → t.pairs[k] = s.pairs[k]
  settings : ∀ x : Fin 16, s.chans[x].SameSettings t.chans[x]
  others : ∀ x : Fin 16, ¬P x → s.AtMostReleased t x

/-- No timebase. -/
def noTb (_ : Fin 4) : Prop := False

/-- No pair. -/
def noPair (_ : Fin 8) : Prop := False

theorem getTb_congr (v : Vector Timebase 4) {i j : Fin 4} (h : i = j) : v[i] = v[j] := by
  subst h
  rfl

section Reaches

variable {B C : Fin 4 → Prop} {P Q : Fin 16 → Prop} {K L : Fin 8 → Prop} {s t u : State}

/-- Where the banks a boundary may reach are the same, nothing is reached. -/
theorem Reaches.of_eq (ht : t.tbs = s.tbs) (hc : t.chans = s.chans) (hf : t.faults = s.faults)
    (hu : t.units = s.units) (hp : t.points = s.points) (hk : t.pairs = s.pairs) : Reaches B P K s t where
  tbs j _ := by rw [ht]
  faults := hf
  units := hu
  members p := by rw [hp]
  enabled k := by rw [hk]
  pairs k _ := by rw [hk]
  settings x := by rw [hc]; exact .refl _
  others x _ := .inl (by rw [hc])

theorem Reaches.refl (s : State) : Reaches B P K s s := .of_eq rfl rfl rfl rfl rfl rfl

theorem State.AtMostReleased.trans {x : Fin 16} (hmem : ∀ p : Fin 8, t.points[p].members = s.points[p].members)
    (h : s.AtMostReleased t x) (g : t.AtMostReleased u x) : s.AtMostReleased u x := by
  rcases g with g | ⟨⟨p, hp⟩, m, g⟩
  · unfold State.AtMostReleased
    rw [g]
    exact h
  · refine .inr ⟨⟨p, by rw [← hmem p]; exact hp⟩, m, ?_⟩
    rcases h with h | ⟨_, n, h⟩
    · rw [g, h]
    · rw [g, h, Channel.release_release]

theorem Reaches.trans (h : Reaches B P K s t) (g : Reaches B P K t u) : Reaches B P K s u where
  tbs j hj := (g.tbs j hj).trans (h.tbs j hj)
  faults := g.faults.trans h.faults
  units := g.units.trans h.units
  members p := (g.members p).trans (h.members p)
  enabled k := (g.enabled k).trans (h.enabled k)
  pairs k hk := (g.pairs k hk).trans (h.pairs k hk)
  settings x := (h.settings x).trans (g.settings x)
  others x hx := (h.others x hx).trans h.members (g.others x hx)

theorem Reaches.mono (h : Reaches B P K s t) (hB : ∀ j, B j → C j) (hP : ∀ x, P x → Q x) (hK : ∀ k, K k → L k) :
    Reaches C Q L s t where
  tbs j hj := h.tbs j fun hb => hj (hB j hb)
  faults := h.faults
  units := h.units
  members := h.members
  enabled := h.enabled
  pairs k hk := h.pairs k fun hp => hk (hK k hp)
  settings := h.settings
  others x hx := h.others x fun hp => hx (hP x hp)

/-- No timebase is reached. -/
theorem Reaches.tbs_eq (h : Reaches noTb P K s t) : t.tbs = s.tbs :=
  Vector.ext fun i hi => h.tbs ⟨i, hi⟩ id

theorem Reaches.covered (h : Reaches B P K s t) (c : Fin 16) : t.covered c = s.covered c := by
  simp only [State.covered, State.covers, State.testedChannel, h.faults, h.enabled]

/-- A channel that is not handled keeps what the pairs and the duty rest on. -/
theorem Reaches.forced (h : Reaches B P K s t) {x : Fin 16} (hx : ¬P x) : t.chans[x].forced = s.chans[x].forced := by
  rcases h.others x hx with h | ⟨_, n, h⟩
  · rw [h]
  · rw [h]; rfl

theorem Reaches.basicSignal (h : Reaches B P K s t) {x : Fin 16} (hx : ¬P x)
    (htb : t.tbs[s.chans[x].tb] = s.tbs[s.chans[x].tb]) : t.basicSignal x = s.basicSignal x := by
  unfold State.basicSignal
  rw [getTb_congr t.tbs (h.settings x).tb, htb]
  rcases h.others x hx with h | ⟨_, n, h⟩
  · rw [h]
  · rw [h]; rfl

theorem modChan_reaches {c : Fin 16} {f : Channel → Channel} (hf : s.chans[c].SameSettings (f s.chans[c])) :
    Reaches B (· = c) K s (s.modChan c f) where
  tbs _ _ := rfl
  faults := rfl
  units := rfl
  members _ := rfl
  enabled _ := rfl
  pairs _ _ := rfl
  settings x := by
    rw [State.modChan_get]
    split
    · next hx => subst hx; exact hf
    · exact .refl _
  others x hx := .inl (by rw [State.modChan_get, if_neg hx])

theorem modPoint_reaches {p : Fin 8} {f : Point → Point} (hf : (f s.points[p]).members = s.points[p].members) :
    Reaches B P K s (s.modPoint p f) where
  tbs _ _ := rfl
  faults := rfl
  units := rfl
  members q := by
    rw [State.modPoint_get]
    split
    · next hq => subst hq; exact hf
    · rfl
  enabled _ := rfl
  pairs _ _ := rfl
  settings _ := .refl _
  others _ _ := .inl rfl

theorem modPair_reaches {k : Fin 8} {f : Pair → Pair} (hk : K k)
    (hf : (f s.pairs[k]).enabled = s.pairs[k].enabled) : Reaches B P K s (s.modPair k f) where
  tbs _ _ := rfl
  faults := rfl
  units := rfl
  members _ := rfl
  enabled j := by
    rw [State.modPair_get]
    split
    · next hj => subst hj; exact hf
    · rfl
  pairs j hj := by
    rw [State.modPair_get, if_neg]
    rintro rfl
    exact hj hk
  settings _ := .refl _
  others _ _ := .inl rfl

theorem mapChans_reaches {f : Fin 16 → Channel → Channel} (hs : ∀ x : Fin 16, s.chans[x].SameSettings (f x s.chans[x]))
    (ho : ∀ x : Fin 16, ¬P x → f x s.chans[x] = s.chans[x] ∨
      (∃ p : Fin 8, s.points[p].members.has x = true) ∧ ∃ n, f x s.chans[x] = s.chans[x].release n) :
    Reaches B P K s (s.mapChans f) where
  tbs _ _ := by rw [State.mapChans_tbs]
  faults := State.mapChans_faults f s
  units := State.mapChans_units f s
  members _ := by rw [State.mapChans_points]
  enabled _ := by rw [State.mapChans_pairs]
  pairs _ _ := by rw [State.mapChans_pairs]
  settings x := by rw [State.mapChans_get]; exact hs x
  others x hx := by rw [State.AtMostReleased, State.mapChans_get]; exact ho x hx

/-- A release reaches members of a point alone (R67). -/
theorem releaseChannels_reaches {p : Fin 8} {set : ChSet}
    (hset : ∀ x, set.has x = true → s.points[p].members.has x = true) :
    Reaches B P K s (s.releaseChannels set) := by
  refine mapChans_reaches (fun x => ?_) (fun x _ => ?_)
  · split <;> exact ⟨rfl, rfl, rfl, rfl, rfl⟩
  · split
    · next hx => exact .inr ⟨⟨p, hset x hx⟩, _, rfl⟩
    · exact .inl rfl

theorem offer_reaches (r : Report) (s : State) : Reaches B P K s (s.offer r) := .of_eq rfl rfl rfl rfl rfl rfl

theorem offerIf_reaches (n : Option Byte) (r : Byte → Report) (s : State) : Reaches B P K s (s.offerIf n r) := by
  cases n
  · exact .refl s
  · exact offer_reaches _ s

theorem setFree_reaches (n : Nat) (s : State) : Reaches B P K s { s with free := n } := .of_eq rfl rfl rfl rfl rfl rfl

end Reaches

/-! ## The six stages and the pair -/

/-- What program advance leaves of the channel that advances; an ARMED channel does not come of it. -/
structure Channel.Advances (ch new : Channel) : Prop where
  pendingLevel : new.pendingLevel = ch.pendingLevel
  replacement : new.replacement = ch.replacement
  pendingControl : new.pendingControl = ch.pendingControl
  forced : new.forced = ch.forced
  armed : ch.state ≠ .armed → new.state ≠ .armed

theorem Channel.Advances.refl (ch : Channel) : ch.Advances ch := ⟨rfl, rfl, rfl, rfl, id⟩

theorem Channel.Advances.trans {a b c : Channel} (h : a.Advances b) (g : b.Advances c) : a.Advances c :=
  ⟨g.1.trans h.1, g.2.trans h.2, g.3.trans h.3, g.4.trans h.4, fun ha => g.5 (h.5 ha)⟩

theorem Channel.advances_release (ch : Channel) (n : BitVec 32) : ch.Advances (ch.release n) := by
  refine ⟨rfl, rfl, rfl, rfl, fun h => ?_⟩
  unfold Channel.release
  by_cases hw : ch.state = .waiting <;> simp [hw, h]

/-- Program advance of channel `c`: others are released at most, and `c` itself only advances. -/
structure AdvancesOnly (c : Fin 16) (s t : State) : Prop where
  reaches : Reaches noTb (· = c) noPair s t
  own : s.chans[c].Advances t.chans[c]

theorem AdvancesOnly.refl (c : Fin 16) (s : State) : AdvancesOnly c s s := ⟨.refl s, .refl _⟩

theorem AdvancesOnly.trans {c : Fin 16} {s t u : State} (h : AdvancesOnly c s t) (g : AdvancesOnly c t u) :
    AdvancesOnly c s u := ⟨h.reaches.trans g.reaches, h.own.trans g.own⟩

theorem modChan_advancesOnly {c : Fin 16} {f : Channel → Channel} {s : State}
    (hs : s.chans[c].SameSettings (f s.chans[c])) (ha : s.chans[c].Advances (f s.chans[c])) :
    AdvancesOnly c s (s.modChan c f) :=
  ⟨modChan_reaches hs, by rw [State.modChan_get, if_pos rfl]; exact ha⟩

theorem offer_advancesOnly (c : Fin 16) (r : Report) (s : State) : AdvancesOnly c s (s.offer r) :=
  ⟨offer_reaches r s, .refl _⟩

theorem setFree_advancesOnly (c : Fin 16) (n : Nat) (s : State) : AdvancesOnly c s { s with free := n } :=
  ⟨setFree_reaches n s, .refl _⟩

theorem completeHead_advancesOnly (c : Fin 16) (s : State) : AdvancesOnly c s (s.completeHead c) := by
  unfold State.completeHead
  split
  · exact .refl c s
  · split
    · exact AdvancesOnly.trans
        (modChan_advancesOnly (f := fun ch => { ch with queue := _, run := .clear }) ⟨rfl, rfl, rfl, rfl, rfl⟩
          ⟨rfl, rfl, rfl, rfl, id⟩) (setFree_advancesOnly c (s.free + 1) _)
    · exact modChan_advancesOnly ⟨rfl, rfl, rfl, rfl, rfl⟩ ⟨rfl, rfl, rfl, rfl, id⟩

theorem endProgram_advancesOnly (c : Fin 16) (s : State) : AdvancesOnly c s (s.endProgram c) :=
  (offer_advancesOnly c _ s).trans
    (modChan_advancesOnly ⟨rfl, rfl, rfl, rfl, rfl⟩ ⟨rfl, rfl, rfl, rfl, fun _ => ChState.noConfusion⟩)

theorem completeRelease_advancesOnly (c : Fin 16) (p : Fin 8) (s : State) :
    AdvancesOnly c s (s.completeRelease p) where
  reaches := ((releaseChannels_reaches (p := p) fun _ hx => hx).trans (modPoint_reaches rfl)).trans (offer_reaches _ _)
  own := by
    show s.chans[c].Advances (s.releaseChannels s.points[p].members).chans[c]
    rw [State.releaseChannels, State.mapChans_get]
    split
    · exact Channel.advances_release _ _
    · exact .refl _

theorem arrive_advancesOnly (c : Fin 16) (p : Fin 8) (s : State) : AdvancesOnly c s (s.arrive c p) := by
  unfold State.arrive
  split
  · exact completeRelease_advancesOnly c p s
  · have hjoin : AdvancesOnly c s (s.modPoint p fun pt => pt.join c) := ⟨modPoint_reaches rfl, .refl _⟩
    exact hjoin.trans (modChan_advancesOnly ⟨rfl, rfl, rfl, rfl, rfl⟩ ⟨rfl, rfl, rfl, rfl, fun _ => ChState.noConfusion⟩)

theorem startHeads_advancesOnly (c : Fin 16) (n : Nat) (s : State) : AdvancesOnly c s (State.startHeads c n s) := by
  induction n generalizing s with
  | zero =>
    unfold State.startHeads
    split
    · exact endProgram_advancesOnly c s
    · exact .refl c s
  | succ n ih =>
    unfold State.startHeads
    split
    · exact endProgram_advancesOnly c s
    · exact ((modChan_advancesOnly ⟨rfl, rfl, rfl, rfl, rfl⟩ ⟨rfl, rfl, rfl, rfl, id⟩).trans
        (completeHead_advancesOnly c _)).trans (ih _)
    · exact ((offer_advancesOnly c _ s).trans (completeHead_advancesOnly c _)).trans (ih _)
    · exact modChan_advancesOnly ⟨rfl, rfl, rfl, rfl, rfl⟩ ⟨rfl, rfl, rfl, rfl, id⟩
    · exact modChan_advancesOnly ⟨rfl, rfl, rfl, rfl, rfl⟩ ⟨rfl, rfl, rfl, rfl, id⟩
    · split
      · exact arrive_advancesOnly c _ s
      · exact ((offer_advancesOnly c _ s).trans (completeHead_advancesOnly c _)).trans (ih _)

theorem stageAdvance_advancesOnly (c : Fin 16) (s : State) : AdvancesOnly c s (s.stageAdvance c) := by
  unfold State.stageAdvance
  dsimp only
  split
  · exact .refl c s
  · split
    · exact startHeads_advancesOnly c _ s
    · exact modChan_advancesOnly ⟨rfl, rfl, rfl, rfl, rfl⟩ ⟨rfl, rfl, rfl, rfl, id⟩
    · exact (completeHead_advancesOnly c s).trans (startHeads_advancesOnly c _ _)
    · exact .refl c s

theorem stageLevel_reaches (c : Fin 16) (s : State) : Reaches noTb (· = c) noPair s (s.stageLevel c) := by
  unfold State.stageLevel
  split
  · exact .refl s
  · exact Reaches.trans (modChan_reaches ⟨rfl, rfl, rfl, rfl, rfl⟩) (offerIf_reaches _ _ _)

/-- After stage 1 no level is pending (R40). -/
theorem stageLevel_own (c : Fin 16) (s : State) :
    (s.stageLevel c).chans[c].pendingLevel = none ∧ (s.stageLevel c).chans[c].forced = s.chans[c].forced := by
  unfold State.stageLevel
  split
  · next h => exact ⟨h, rfl⟩
  · rw [State.offerIf_chans, State.modChan_get, if_pos rfl]
    exact ⟨rfl, rfl⟩

theorem withdraw_reaches {B : Fin 4 → Prop} {P : Fin 16 → Prop} {K : Fin 8 → Prop} (c : Fin 16) (s : State) :
    Reaches B P K s (s.withdraw c) := by
  unfold State.withdraw
  split
  · exact modPoint_reaches rfl
  · exact .refl s

theorem promote_reaches {B : Fin 4 → Prop} {K : Fin 8 → Prop} (c : Fin 16) (s : State) :
    Reaches B (· = c) K s (s.promote c) := by
  unfold State.promote
  split
  · exact .refl s
  · next r _ =>
    exact Reaches.trans
      (modChan_reaches (f := fun ch => { ch with queue := r.segments, run := .clear, replacement := none })
        ⟨rfl, rfl, rfl, rfl, rfl⟩) (setFree_reaches (s.free + s.chans[c].queue.length) _)

theorem promote_own {c : Fin 16} {s : State} {r : Replacement} (h : s.chans[c].replacement = some r) :
    (s.promote c).chans[c] = { s.chans[c] with queue := r.segments, run := .clear, replacement := none } := by
  unfold State.promote
  split
  · next hnone => cases hnone.symm.trans h
  · next r' hsome =>
    cases hsome.symm.trans h
    exact (State.modChan_get c c
      (fun ch => { ch with queue := r.segments, run := .clear, replacement := none }) s).trans (if_pos rfl)

theorem stageReplacement_reaches (c : Fin 16) (s : State) : Reaches noTb (· = c) noPair s (s.stageReplacement c) := by
  unfold State.stageReplacement
  split
  · exact .refl s
  · exact Reaches.trans (Reaches.trans ((withdraw_reaches c s).trans (promote_reaches c _))
      (modChan_reaches ⟨rfl, rfl, rfl, rfl, rfl⟩)) (offerIf_reaches _ _ _)

/-- After stage 2 no list is pending (R41). -/
theorem stageReplacement_own (c : Fin 16) (s : State) :
    (s.stageReplacement c).chans[c].replacement = none ∧
      (s.stageReplacement c).chans[c].pendingLevel = s.chans[c].pendingLevel ∧
      (s.stageReplacement c).chans[c].forced = s.chans[c].forced := by
  unfold State.stageReplacement
  split
  · next h => exact ⟨h, rfl, rfl⟩
  · next r h =>
    have hp := promote_own (s := s.withdraw c) (c := c) (by rw [State.withdraw_chans]; exact h)
    dsimp only
    rw [State.offerIf_chans, State.modChan_get, if_pos rfl, hp, State.withdraw_chans]
    exact ⟨rfl, rfl, rfl⟩

/-- After stage 3 no control is pending and no channel is ARMED (R42). -/
theorem Channel.applyControl_state (ch : Channel) : ch.applyControl.state ≠ .armed := by
  unfold Channel.applyControl
  cases ch.pendingControl <;> cases ch.state <;> simp

/-- What the handling of a boundary leaves of its channel: nothing pending, the duty latched against the period, the
forced flag as given. -/
structure Channel.Handled (ch : Channel) (period : Nat) (forced : Bool) : Prop where
  pendingLevel : ch.pendingLevel = none
  replacement : ch.replacement = none
  pendingControl : ch.pendingControl = .none
  notArmed : ch.state ≠ .armed
  duty : 16 * ch.dutyI + ch.dutyF = ch.level * period / 256
  sixteenths : ch.dutyF < 16
  forced : ch.forced = forced

theorem Channel.handled_latch {ch : Channel} {forced : Bool} (hlevel : ch.pendingLevel = none)
    (hlist : ch.replacement = none) (hcontrol : ch.pendingControl = .none) (harmed : ch.state ≠ .armed)
    (hforced : ch.forced = forced) (period : Nat) : (ch.latch period).Handled period forced :=
  ⟨hlevel, hlist, hcontrol, harmed, Nat.div_add_mod _ 16, Nat.mod_lt _ (by decide), hforced⟩

theorem Channel.Handled.release {ch : Channel} {period : Nat} {forced : Bool} (h : ch.Handled period forced)
    (n : BitVec 32) : (ch.release n).Handled period forced :=
  ⟨h.1, h.2, h.3, (ch.advances_release n).armed h.4, h.5, h.6, h.7⟩

theorem State.AtMostReleased.handled {s t : State} {x : Fin 16} {period : Nat} {forced : Bool}
    (h : s.AtMostReleased t x) (hx : s.chans[x].Handled period forced) : t.chans[x].Handled period forced := by
  rcases h with h | ⟨_, n, h⟩ <;> rw [h]
  · exact hx
  · exact hx.release n

/-- Stages 1 to 5 (R39). -/
def State.fiveStages (c : Fin 16) (s : State) : State :=
  ((((s.stageLevel c).stageReplacement c).stageControl c).stageAdvance c).stageLatch c

/-- Stages 1 to 4 (R39). -/
def State.fourStages (c : Fin 16) (s : State) : State :=
  (((s.stageLevel c).stageReplacement c).stageControl c).stageAdvance c

theorem stageControl_reaches (c : Fin 16) (s : State) : Reaches noTb (· = c) noPair s (s.stageControl c) :=
  modChan_reaches ⟨rfl, rfl, rfl, rfl, rfl⟩

theorem stageLatch_reaches (c : Fin 16) (s : State) : Reaches noTb (· = c) noPair s (s.stageLatch c) :=
  modChan_reaches ⟨rfl, rfl, rfl, rfl, rfl⟩

theorem State.fourStages_reaches (c : Fin 16) (s : State) : Reaches noTb (· = c) noPair s (s.fourStages c) :=
  (((stageLevel_reaches c s).trans (stageReplacement_reaches c _)).trans (stageControl_reaches c _)).trans
    (stageAdvance_advancesOnly c _).reaches

theorem State.fiveStages_reaches (c : Fin 16) (s : State) : Reaches noTb (· = c) noPair s (s.fiveStages c) :=
  (s.fourStages_reaches c).trans (stageLatch_reaches c _)

theorem State.fiveStages_own (c : Fin 16) (s : State) :
    (s.fiveStages c).chans[c].Handled s.tbs[s.chans[c].tb].period s.chans[c].forced := by
  obtain ⟨hlevel, hforced1⟩ := stageLevel_own c s
  obtain ⟨hrepl, hlevel2, hforced2⟩ := stageReplacement_own c (s.stageLevel c)
  have hcontrol : (((s.stageLevel c).stageReplacement c).stageControl c).chans[c] =
      ((s.stageLevel c).stageReplacement c).chans[c].applyControl := by
    rw [State.stageControl, State.modChan_get, if_pos rfl]
  have hown : Channel.Advances _ (s.fourStages c).chans[c] :=
    (stageAdvance_advancesOnly c (((s.stageLevel c).stageReplacement c).stageControl c)).own
  rw [hcontrol] at hown
  have hfour := s.fourStages_reaches c
  have hlatch : (s.fiveStages c).chans[c] = (s.fourStages c).chans[c].latch s.tbs[s.chans[c].tb].period := by
    rw [← hfour.tbs_eq, ← getTb_congr (s.fourStages c).tbs (hfour.settings c).tb]
    exact (State.modChan_get c c _ _).trans (if_pos rfl)
  have hpending : (s.fourStages c).chans[c].pendingControl = .none := hown.pendingControl
  rw [hlatch, ← hforced1, ← hforced2]
  exact Channel.handled_latch (hown.pendingLevel.trans (hlevel2.trans hlevel)) (hown.replacement.trans hrepl) hpending
    (hown.armed (Channel.applyControl_state _)) hown.forced _

/-- All six stages (R39). -/
def State.sixStages (c : Fin 16) (s : State) : State := (s.fiveStages c).stageUnforce c

theorem stageUnforce_reaches {B : Fin 4 → Prop} {K : Fin 8 → Prop} (c : Fin 16) (s : State) :
    Reaches B (· = c) K s (s.stageUnforce c) := by
  unfold State.stageUnforce
  split
  · exact modChan_reaches ⟨rfl, rfl, rfl, rfl, rfl⟩
  · exact .refl s

/-- Stage 6 keeps the forced flag of a covered channel alone (R52). -/
theorem stageUnforce_own (c : Fin 16) (s : State) :
    (s.stageUnforce c).chans[c] = { s.chans[c] with forced := s.chans[c].forced && s.covered c } := by
  unfold State.stageUnforce
  cases hf : s.chans[c].forced <;> cases hc : s.covered c
  · rw [if_neg (by decide), Bool.false_and, ← hf]
  · rw [if_neg (by decide), Bool.false_and, ← hf]
  · rw [if_pos (by decide), State.modChan_get, if_pos rfl, Bool.and_false]
  · rw [if_neg (by decide), Bool.true_and, ← hf]

theorem State.sixStages_reaches (c : Fin 16) (s : State) : Reaches noTb (· = c) noPair s (s.sixStages c) :=
  (s.fiveStages_reaches c).trans (stageUnforce_reaches c _)

theorem State.sixStages_own (c : Fin 16) (s : State) :
    (s.sixStages c).chans[c].Handled s.tbs[s.chans[c].tb].period (s.chans[c].forced && s.covered c) := by
  obtain ⟨h1, h2, h3, h4, h5, h6, h7⟩ := s.fiveStages_own c
  rw [State.sixStages, stageUnforce_own, h7, (s.fiveStages_reaches c).covered]
  exact ⟨h1, h2, h3, h4, h5, h6, rfl⟩

theorem Pair.edge_enabled (p : Pair) (x : Bool) : (p.edge x).enabled = p.enabled := by
  unfold Pair.edge
  cases x <;> by_cases h : p.deadTime = 0 <;> simp [h]

theorem Pair.countTick_enabled (p : Pair) : p.countTick.enabled = p.enabled := by
  unfold Pair.countTick Pair.riseAAt Pair.riseBAt
  split
  · split <;> rfl
  · split
    · split <;> rfl
    · rfl

theorem Pair.tick_enabled (p : Pair) (x y : Bool) : (p.tick x y).enabled = p.enabled := by
  unfold Pair.tick
  split
  · exact p.countTick_enabled
  · exact p.edge_enabled y

theorem Pair.restart_enabled (p : Pair) (x : Bool) : (p.restart x).enabled = p.enabled := p.low.edge_enabled x

theorem isEven_iff (c : Fin 16) : isEven c = true ↔ c = evenOf (pairOf c) := by
  simp only [isEven, evenOf, pairOf, beq_iff_eq, Fin.ext_iff]
  omega

theorem pairOf_evenOf (k : Fin 8) : pairOf (evenOf k) = k := by
  simp only [evenOf, pairOf, Fin.ext_iff]
  omega

/-- What a boundary is to the pair of an even channel, as one change of the pair (R81 to R84). -/
theorem State.boundaryPair_eq (c : Fin 16) (starts x : Bool) (s before : State) :
    s.boundaryPair c starts x before =
      if c = evenOf (pairOf c) ∧ s.pairActs (pairOf c) = true then
        s.modPair (pairOf c) fun p =>
          if starts = true ∨ before.chans[c].forced = true then p.restart (s.basicSignal c)
          else p.tick x (s.basicSignal c)
      else s := by
  unfold State.boundaryPair
  dsimp only
  by_cases he : isEven c = true
  · have hc := (isEven_iff c).mp he
    cases ha : s.pairActs (pairOf c)
    · simp [he, hc.symm]
    · by_cases hr : starts = true ∨ before.chans[c].forced = true
      · have hr' : (starts || before.chans[c].forced) = true := by simpa using hr
        rw [if_neg (by simp [he]), if_pos hr', if_pos ⟨hc, rfl⟩, State.restartPair, ha, if_pos rfl, ← hc]
        simp only [if_pos hr]
      · have hr' : ¬ (starts || before.chans[c].forced) = true := by simpa using hr
        rw [if_neg (by simp [he]), if_neg hr', if_pos ⟨hc, rfl⟩]
        simp only [if_neg hr]
  · rw [if_pos (by simp [he]), if_neg fun h => he ((isEven_iff c).mpr h.1)]

theorem State.handleBoundary_eq (starts : Bool) (c : Fin 16) (s old : State) :
    s.handleBoundary starts c old =
      (s.sixStages c).boundaryPair c starts (old.basicSignal c) (s.fiveStages c) := rfl

theorem State.boundaryPair_reaches {B : Fin 4 → Prop} {P : Fin 16 → Prop} (c : Fin 16) (starts x : Bool)
    (s before : State) : Reaches B P (evenOf · = c) s (s.boundaryPair c starts x before) := by
  rw [State.boundaryPair_eq]
  split
  · next h =>
    refine modPair_reaches h.1.symm ?_
    split
    · exact Pair.restart_enabled _ _
    · exact Pair.tick_enabled _ _ _
  · exact .refl s

theorem State.boundaryPair_chans (c : Fin 16) (starts x : Bool) (s before : State) :
    (s.boundaryPair c starts x before).chans = s.chans := by
  rw [State.boundaryPair_eq]
  split <;> rfl

theorem State.handleBoundary_reaches (starts : Bool) (c : Fin 16) (s old : State) :
    Reaches noTb (· = c) (evenOf · = c) s (s.handleBoundary starts c old) := by
  rw [State.handleBoundary_eq]
  exact ((s.sixStages_reaches c).mono (fun _ h => h) (fun _ h => h) (fun _ h => h.elim)).trans
    (State.boundaryPair_reaches c starts _ _ _)

theorem State.handleBoundary_own (starts : Bool) (c : Fin 16) (s old : State) :
    (s.handleBoundary starts c old).chans[c].Handled s.tbs[s.chans[c].tb].period
      (s.chans[c].forced && s.covered c) := by
  rw [State.handleBoundary_eq, State.boundaryPair_chans]
  exact s.sixStages_own c

/-- At a start boundary the enabled pair of an even channel restarts, where the timebase runs and the channel is not
forced (R83). -/
theorem State.handleBoundary_restarts {k : Fin 8} {c : Fin 16} (hc : evenOf k = c) (s old : State) :
    (s.handleBoundary true c old).pairs[k] =
      if s.pairs[k].enabled = true ∧ s.tbs[s.chans[c].tb].state = .running ∧
          (s.handleBoundary true c old).chans[c].forced = false then
        s.pairs[k].restart ((s.handleBoundary true c old).basicSignal c)
      else s.pairs[k] := by
  subst hc
  have hr := s.sixStages_reaches (evenOf k)
  have hpair : (s.sixStages (evenOf k)).pairs[k] = s.pairs[k] := hr.pairs k id
  have hacts : (s.sixStages (evenOf k)).pairActs k = true ↔
      s.pairs[k].enabled = true ∧ s.tbs[s.chans[evenOf k].tb].state = .running ∧
        (s.sixStages (evenOf k)).chans[evenOf k].forced = false := by
    rw [State.pairActs, State.onRunningTb, hpair, hr.tbs_eq, getTb_congr s.tbs (hr.settings (evenOf k)).tb]
    simp [and_assoc, -Fin.getElem_fin]
  have hsame : (s.handleBoundary true (evenOf k) old).basicSignal (evenOf k) =
      (s.sixStages (evenOf k)).basicSignal (evenOf k) := by
    rw [State.handleBoundary_eq]
    exact (State.boundaryPair_reaches (B := noTb) (P := fun _ => False) _ _ _ _ _).basicSignal id (by
      rw [(State.boundaryPair_reaches (B := noTb) (P := fun _ => False) _ _ _ _ _).tbs_eq])
  rw [hsame, State.handleBoundary_eq, State.boundaryPair_chans, State.boundaryPair_eq, pairOf_evenOf]
  simp only [true_and, ← hacts]
  split
  · rw [State.modPair_get, if_pos rfl, hpair]
    simp
  · exact hpair

end Sys2Proof.Machine

namespace Sys2Proof.Machine

/-! ## The parts of a boundary, in any order -/

theorem forEach_append {α : Type} (xs ys : List α) (f : α → State → State) (s : State) :
    forEach (xs ++ ys) f s = forEach ys f (forEach xs f s) := List.foldl_append

/-- Parts reach the channels they handle and the pairs of the even ones among these. -/
theorem forEach_parts_reaches {P : Fin 16 → Prop} {K : Fin 8 → Prop} {parts : List BoundaryPart}
    (hP : ∀ c, .channel c ∈ parts → P c) (hK : ∀ k, .channel (evenOf k) ∈ parts → K k) (b : Fin 4) (starts : Bool)
    (old s : State) : Reaches noTb P K s (forEach parts (State.takeBoundaryPart b starts old) s) := by
  refine forEach_induction (Reaches noTb P K s) parts _ (fun part hpart t ht => ht.trans ?_) s (.refl s)
  cases part with
  | applied seq => exact offer_reaches _ t
  | channel c =>
    refine (t.handleBoundary_reaches starts c old).mono (fun _ h => h) ?_ ?_
    · rintro x rfl
      exact hP x hpart
    · rintro k rfl
      exact hK k hpart

/-- Around the place at which a channel is handled, the other parts reach other channels alone. -/
theorem forEach_parts_at {parts : List BoundaryPart} (hnd : parts.Nodup) {c : Fin 16} (hc : .channel c ∈ parts)
    (b : Fin 4) (starts : Bool) (old s : State) :
    ∃ v, Reaches noTb (· ≠ c) (evenOf · ≠ c) s v ∧
      Reaches noTb (· ≠ c) (evenOf · ≠ c) (v.handleBoundary starts c old)
        (forEach parts (State.takeBoundaryPart b starts old) s) := by
  obtain ⟨before, after, rfl⟩ := List.append_of_mem hc
  obtain ⟨_, hnd', hdisj⟩ := List.nodup_append.mp hnd
  have hafter : .channel c ∉ after := (List.nodup_cons.mp hnd').1
  have hbefore : .channel c ∉ before := fun h => hdisj _ h _ List.mem_cons_self rfl
  refine ⟨forEach before (State.takeBoundaryPart b starts old) s, ?_, ?_⟩
  · refine forEach_parts_reaches (fun x hx => ?_) (fun k hk => ?_) b starts old s
    · rintro rfl; exact hbefore hx
    · rintro rfl; exact hbefore hk
  · rw [forEach_append, forEach_cons]
    refine forEach_parts_reaches (fun x hx => ?_) (fun k hk => ?_) b starts old _
    · rintro rfl; exact hafter hx
    · rintro rfl; exact hafter hk

theorem State.nodup_boundaryParts (s : State) (b : Fin 4) : (s.boundaryParts b).Nodup := by
  refine List.nodup_append.mpr ⟨?_, ?_, ?_⟩
  · cases s.tbs[b].notifySeq <;> simp
  · refine ((List.nodup_finRange 16).filter _).map fun x y h => ?_
    cases h
    rfl
  · intro x hx y hy hxy
    obtain ⟨_, _, rfl⟩ := List.mem_map.mp hx
    obtain ⟨_, _, rfl⟩ := List.mem_map.mp hy
    cases hxy

theorem State.channel_mem_boundaryParts (s : State) (b : Fin 4) (c : Fin 16) :
    .channel c ∈ s.boundaryParts b ↔ s.chans[c].tb = b := by
  simp [State.boundaryParts, State.boundTo]

theorem State.boundary_order (starts : Bool) (b : Fin 4) (s : State) : ∃ order n,
    order.Perm (s.boundaryParts b) ∧ s.boundary starts b =
      forEach order (State.takeBoundaryPart b starts s) { s.modTb b fun tb => tb.begin starts with choice := n } :=
  forEachInAnyOrder_eq _ _ _

theorem begin_reaches {P : Fin 16 → Prop} {K : Fin 8 → Prop} (starts : Bool) (b : Fin 4) (s : State) (n : Nat) :
    Reaches (· = b) P K s { s.modTb b fun tb => tb.begin starts with choice := n } where
  tbs j hj := (State.modTb_get b j (fun tb => tb.begin starts) s).trans (if_neg hj)
  faults := rfl
  units := rfl
  members _ := rfl
  enabled _ := rfl
  pairs _ _ := rfl
  settings _ := .refl _
  others _ _ := .inl rfl

theorem begin_tb (starts : Bool) (b : Fin 4) (s : State) (n : Nat) :
    ({ s.modTb b fun tb => tb.begin starts with choice := n } : State).tbs[b] = s.tbs[b].begin starts :=
  (State.modTb_get b b (fun tb => tb.begin starts) s).trans (if_pos rfl)

/-- A boundary reaches its timebase, the channels bound to it and the pairs whose even channel is (R5). -/
theorem State.boundary_reaches (starts : Bool) (b : Fin 4) (s : State) :
    Reaches (· = b) (s.chans[·].tb = b) (s.chans[evenOf ·].tb = b) s (s.boundary starts b) := by
  obtain ⟨order, n, hperm, heq⟩ := s.boundary_order starts b
  rw [heq]
  refine (begin_reaches starts b s n).trans ?_
  have hmem (c : Fin 16) (h : .channel c ∈ order) : s.chans[c].tb = b :=
    (s.channel_mem_boundaryParts b c).mp (hperm.mem_iff.mp h)
  exact (forEach_parts_reaches hmem (fun k => hmem (evenOf k)) b starts s _).mono (fun _ h => h.elim) (fun _ h => h)
    (fun _ h => h)

/-- The timebase's own part of a boundary, which no channel's handling touches (R4, R6). -/
theorem State.boundary_tb (starts : Bool) (b : Fin 4) (s : State) :
    (s.boundary starts b).tbs[b] = s.tbs[b].begin starts := by
  obtain ⟨order, n, _, heq⟩ := s.boundary_order starts b
  rw [heq, (forEach_parts_reaches (P := fun _ => True) (K := fun _ => True) (fun _ _ => trivial) (fun _ _ => trivial)
    b starts s _).tbs_eq, begin_tb]

/-- The place of a boundary at which a bound channel is handled. -/
theorem State.boundary_at (starts : Bool) {b : Fin 4} {s : State} {c : Fin 16} (hc : s.chans[c].tb = b) :
    ∃ v, Reaches (· = b) (· ≠ c) (evenOf · ≠ c) s v ∧ v.tbs[b] = s.tbs[b].begin starts ∧
      Reaches noTb (· ≠ c) (evenOf · ≠ c) (v.handleBoundary starts c s) (s.boundary starts b) := by
  obtain ⟨order, n, hperm, heq⟩ := s.boundary_order starts b
  have hmem : .channel c ∈ order := hperm.mem_iff.mpr ((s.channel_mem_boundaryParts b c).mpr hc)
  obtain ⟨v, hbefore, hafter⟩ := forEach_parts_at (hperm.nodup_iff.mpr (s.nodup_boundaryParts b)) hmem b starts s
    { s.modTb b fun tb => tb.begin starts with choice := n }
  refine ⟨v, (begin_reaches starts b s n).trans (hbefore.mono (fun _ h => h.elim) (fun _ h => h) (fun _ h => h)), ?_, ?_⟩
  · rw [hbefore.tbs_eq, begin_tb]
  · rw [heq]
    exact hafter

/-- Whatever the order, a bound channel comes out of a boundary handled (R39 to R42, R52). -/
theorem State.boundary_handled (starts : Bool) {b : Fin 4} {s : State} {c : Fin 16} (hc : s.chans[c].tb = b) :
    (s.boundary starts b).chans[c].Handled (s.tbs[b].begin starts).period (s.chans[c].forced && s.covered c) := by
  obtain ⟨v, hbefore, htb, hafter⟩ := State.boundary_at starts hc
  have hown := v.handleBoundary_own starts c s
  rw [getTb_congr v.tbs ((hbefore.settings c).tb.trans hc), htb, hbefore.forced (· rfl), hbefore.covered] at hown
  exact (hafter.others c (· rfl)).handled hown

/-- Whatever the order, a start boundary restarts the pair of an even bound channel that is not forced (R83). -/
theorem State.boundary_restarts {b : Fin 4} {s : State} {k : Fin 8} (hk : s.chans[evenOf k].tb = b)
    (hrun : s.tbs[b].state = .running) :
    (s.boundary true b).pairs[k] =
      if s.pairs[k].enabled = true ∧ (s.boundary true b).chans[evenOf k].forced = false then
        s.pairs[k].restart ((s.boundary true b).basicSignal (evenOf k))
      else s.pairs[k] := by
  obtain ⟨v, hbefore, htb, hafter⟩ := State.boundary_at true hk
  have hpair := State.handleBoundary_restarts (k := k) rfl v s
  have hrunning : v.tbs[v.chans[evenOf k].tb].state = .running := by
    rw [getTb_congr v.tbs ((hbefore.settings (evenOf k)).tb.trans hk), htb]
    exact hrun
  have hsignal := hafter.basicSignal (x := evenOf k) (· rfl) (by rw [hafter.tbs_eq])
  rw [hafter.pairs k (· rfl), hpair, hbefore.pairs k (· rfl), hsignal, hafter.forced (· rfl)]
  simp only [hrunning, true_and]

/-! ## O33 -/

/-- One part of a boundary, its channel's handling written as one change of the pair. -/
theorem State.takeBoundaryPart_channel (b : Fin 4) (starts : Bool) (old : State) (c : Fin 16) (s : State) :
    State.takeBoundaryPart b starts old (.channel c) s =
      if c = evenOf (pairOf c) ∧ (s.sixStages c).pairActs (pairOf c) = true then
        (s.sixStages c).modPair (pairOf c) fun p =>
          if starts = true ∨ (s.fiveStages c).chans[c].forced = true then p.restart ((s.sixStages c).basicSignal c)
          else p.tick (old.basicSignal c) ((s.sixStages c).basicSignal c)
      else s.sixStages c :=
  State.boundaryPair_eq c starts (old.basicSignal c) (s.sixStages c) (s.fiveStages c)

theorem State.event_of_running {s : State} (hheld : s.held = false) (f : State → State) :
    s.event f = .next (f s).settle := by
  rw [State.event, hheld]
  rfl

/-- An event of a running part that leaves the link of a settled state ends with the arbiter's choice alone. -/
theorem State.settle_frame {s t : State} (hs : s.Settled) (hlink : t.link = s.link) :
    ∃ l q, t.settle = { t with link := l, reports := q } := by
  by_cases hin : t.link.inbound = []
  · rw [State.settle_of_inbound_nil t hin]
    exact t.arbitrate_frame
  · have hfull : Config.holdingSize ≤ t.link.holding.length := by
      rw [hlink] at hin ⊢
      exact hs.2.resolve_left hin
    have hbusy : t.link.tx ≠ .idle := fun hidle => by
      have hnil := (hs.1 (hlink ▸ hidle)).1
      rw [hlink, hnil] at hfull
      exact absurd hfull (by decide)
    have hset : t.Settled := ⟨fun h => absurd h hbusy, .inr hfull⟩
    exact ⟨t.link, t.reports, State.settle_of_settled t hset⟩

/-- Settles O33: the order is the one drawn; what holds whatever the order comes from the one place of each channel. -/
theorem boundaryEffect : Obligations.BoundaryEffect := by
  refine ⟨fun s b starts => ?_, fun s b hheld hs hrun hend => ?_, fun s b hheld hs hnot => ?_⟩
  · obtain ⟨order, n, hperm, heq⟩ := s.boundary_order starts b
    refine ⟨order, n, ?_, ?_⟩
    · have hparts : s.tbs[b].notifySeq.toList.map BoundaryPart.applied =
          match s.tbs[b].pendingPeriod with
          | some p => p.notify.toList.map BoundaryPart.applied
          | none => [] := by
        unfold Timebase.notifySeq
        cases s.tbs[b].pendingPeriod <;> rfl
      exact (congrArg (fun l => order.Perm (l ++ (s.boundTo b).map .channel)) hparts).mp hperm
    · rw [heq]
      refine congrArg (fun f => List.foldl f _ order) (funext fun u => funext fun part => ?_)
      cases part with
      | applied seq => rfl
      | channel c => exact State.takeBoundaryPart_channel b starts s c u
  · have hexec : exec (.boundary b) s = .next (s.boundary false b).settle :=
      (State.event_of_running hheld _).trans
        (congrArg (fun u : State => Host.Outcome.next u.settle) (if_pos ⟨hrun, decide_eq_true hend⟩))
    have hback := boundary_background false b s
    obtain ⟨l, q, hsettle⟩ := State.settle_frame hs hback.link
    have hreach := s.boundary_reaches false b
    refine ⟨hexec, _, hexec, ?_⟩
    rw [hsettle]
    refine ⟨State.boundary_tb false b s, fun j hj => hreach.tbs j hj, fun x hx => ?_, fun x hx hmem => ?_,
      fun k hk => hreach.pairs k hk, hback.routes, hback.idles, hreach.faults, hreach.units, hback.replay,
      hback.msPhase, hback.samplePhase⟩
    · obtain ⟨h1, h2, h3, h4, h5, h6, h7⟩ := State.boundary_handled false hx
      obtain ⟨g1, g2, g3, g4, g5⟩ := hreach.settings x
      rw [← State.boundary_tb false b s] at h5
      exact ⟨h1, h2, h3, h4, h5, h6, h7, g1, g2, g3.trans hx, g4, g5⟩
    · rcases hreach.others x hx with h | ⟨⟨p, hp⟩, _⟩
      · exact h
      · exact absurd ((hmem p).symm.trans hp) (by decide)
  · refine State.event_of_settled hheld (if_neg ?_) hs
    rintro ⟨hrun, hat⟩
    rcases hnot with hhalt | hne
    · exact absurd (hhalt.symm.trans hrun) (by decide)
    · exact hne (of_decide_eq_true hat)

/-! ## O11: TB_START -/

/-- Start boundaries reach the timebases they are of, the channels bound to these and their pairs. -/
theorem forEach_boundary_reaches {B : Fin 4 → Prop} {order : List (Fin 4)} (hB : ∀ b ∈ order, B b) (s : State) :
    Reaches B (B s.chans[·].tb) (B s.chans[evenOf ·].tb) s (forEach order (State.boundary true) s) := by
  refine forEach_induction (Reaches B (B s.chans[·].tb) (B s.chans[evenOf ·].tb) s) order _ (fun b hb u hu => ?_) s
    (.refl s)
  refine hu.trans ((u.boundary_reaches true b).mono ?_ (fun x hx => ?_) (fun k hk => ?_))
  · rintro j rfl
    exact hB j hb
  · rw [← (hu.settings x).tb, hx]
    exact hB b hb
  · rw [← (hu.settings (evenOf k)).tb, hk]
    exact hB b hb

/-- Around the start boundary of a timebase, the others reach other timebases alone. -/
theorem forEach_boundary_at {order : List (Fin 4)} (hnd : order.Nodup) {b : Fin 4} (hb : b ∈ order) (s : State) :
    ∃ v, Reaches (· ≠ b) (s.chans[·].tb ≠ b) (s.chans[evenOf ·].tb ≠ b) s v ∧
      Reaches (· ≠ b) (s.chans[·].tb ≠ b) (s.chans[evenOf ·].tb ≠ b) (v.boundary true b)
        (forEach order (State.boundary true) s) := by
  obtain ⟨before, after, rfl⟩ := List.append_of_mem hb
  obtain ⟨_, hnd', hdisj⟩ := List.nodup_append.mp hnd
  have hbefore := forEach_boundary_reaches (B := (· ≠ b)) (order := before)
    (fun j hj hjb => hdisj j hj b List.mem_cons_self hjb) s
  have hafter := forEach_boundary_reaches (B := (· ≠ b)) (order := after)
    (fun j hj hjb => (List.nodup_cons.mp hnd').1 (hjb ▸ hj))
    ((forEach before (State.boundary true) s).boundary true b)
  refine ⟨forEach before (State.boundary true) s, hbefore, ?_⟩
  rw [forEach_append, forEach_cons]
  have htb (x : Fin 16) : ((forEach before (State.boundary true) s).boundary true b).chans[x].tb = s.chans[x].tb :=
    ((State.boundary_reaches true b _).settings x).tb.trans (hbefore.settings x).tb
  exact hafter.mono (fun _ h => h) (fun x h => htb x ▸ h) (fun k h => htb (evenOf k) ▸ h)

section started

variable {order : List (Fin 4)} {b : Fin 4} {s : State}

theorem forEach_boundary_tb (hnd : order.Nodup) (hb : b ∈ order) :
    (forEach order (State.boundary true) s).tbs[b] = s.tbs[b].begin true := by
  obtain ⟨v, hbefore, hafter⟩ := forEach_boundary_at hnd hb s
  rw [hafter.tbs b (· rfl), State.boundary_tb, hbefore.tbs b (· rfl)]

theorem forEach_boundary_handled (hnd : order.Nodup) (hb : b ∈ order) {x : Fin 16} (hx : s.chans[x].tb = b) :
    (forEach order (State.boundary true) s).chans[x].Handled (s.tbs[b].begin true).period
      (s.chans[x].forced && s.covered x) := by
  obtain ⟨v, hbefore, hafter⟩ := forEach_boundary_at hnd hb s
  have hown := State.boundary_handled true ((hbefore.settings x).tb.trans hx)
  rw [hbefore.tbs b (· rfl), hbefore.forced (· hx), hbefore.covered] at hown
  exact (hafter.others x (· hx)).handled hown

theorem forEach_boundary_restarts (hnd : order.Nodup) (hb : b ∈ order) {k : Fin 8}
    (hk : s.chans[evenOf k].tb = b) (hrun : s.tbs[b].state = .running) :
    (forEach order (State.boundary true) s).pairs[k] =
      if s.pairs[k].enabled = true ∧ (forEach order (State.boundary true) s).chans[evenOf k].forced = false then
        s.pairs[k].restart ((forEach order (State.boundary true) s).basicSignal (evenOf k))
      else s.pairs[k] := by
  obtain ⟨v, hbefore, hafter⟩ := forEach_boundary_at hnd hb s
  have hkv : v.chans[evenOf k].tb = b := (hbefore.settings _).tb.trans hk
  have hkw : (v.boundary true b).chans[evenOf k].tb = b := ((v.boundary_reaches true b).settings _).tb.trans hkv
  have hpair := State.boundary_restarts hkv (by rw [hbefore.tbs b (· rfl)]; exact hrun)
  have hsignal := hafter.basicSignal (x := evenOf k) (· hk) (by
    rw [getTb_congr _ hkw, getTb_congr (v.boundary true b).tbs hkw]
    exact hafter.tbs b (· rfl))
  rw [hafter.pairs k (· hk), hpair, hbefore.pairs k (· hk), hsignal, hafter.forced (· hk)]

end started

/-- The arrival of a frame ends SILENCE's activity, not its latch, so it covers no channel and uncovers none. -/
theorem State.covered_heard (s : State) (x : Fin 16) : s.heard.covered x = s.covered x := by
  have hfault (f : Fin 4) : s.heard.faults[f] =
      if f = 2 then { s.faults[(2 : Fin 4)] with active := false } else s.faults[f] :=
    State.modFault_get 2 f (fun src => { src with active := false }) s
  have hcovers (f : Fin 4) : s.heard.covers f x = s.covers f x := by
    unfold State.covers
    rw [hfault]
    split
    · next h => subst h; rfl
    · rfl
  simp only [State.covered, hcovers]

/-- TB_START with its set in range (R6). -/
theorem takeTbStart_set {set : List (Fin 4)} (h : set ≠ []) (s : State) :
    takeTbStart [tbSetByte set] s =
      if ((List.finRange 4).filter fun b => set.contains b).any fun b => s.tbs[b].state == .running then
        refuse .state s
      else accept .ok [] (s.startTbs ((List.finRange 4).filter fun b => set.contains b)) := by
  rw [takeTbStart, if_neg (by simp), u8_single, tbSet?_tbSetByte h]

/-- The state from which the start boundaries are taken: every timebase of the set is set going (R6). -/
def State.going (s : State) (set : List (Fin 4)) (n : Nat) : State :=
  { s with
    choice := n
    tbs := Vector.ofFn fun b =>
      if set.contains b then
        { s.tbs[b] with state := .running, prescaler := 0, counter := 0, stretch := false, slot := 0 }
      else s.tbs[b] }

theorem State.startTbs_order (s : State) (set : List (Fin 4)) : ∃ order n,
    order.Perm ((List.finRange 4).filter fun b => set.contains b) ∧
      s.startTbs ((List.finRange 4).filter fun b => set.contains b) =
        forEach order (State.boundary true) (s.going set n) := by
  obtain ⟨order, n, hperm, heq⟩ := forEachInAnyOrder_eq ((List.finRange 4).filter fun b => set.contains b)
    (State.boundary true)
    (s.mapTbs fun b tb => if ((List.finRange 4).filter fun j => set.contains j).contains b then tb.start else tb)
  refine ⟨order, n, hperm, heq.trans ?_⟩
  simp only [contains_filter_finRange]
  rfl

theorem State.going_tb {s : State} {set : List (Fin 4)} {n : Nat} {b : Fin 4} (hb : b ∈ set) :
    (s.going set n).tbs[b] = s.tbs[b].start :=
  (getFin_ofFn _ b).trans (if_pos (List.contains_iff_mem.mpr hb))

theorem State.going_tb_other {s : State} {set : List (Fin 4)} {n : Nat} {b : Fin 4} (hb : b ∉ set) :
    (s.going set n).tbs[b] = s.tbs[b] :=
  (getFin_ofFn _ b).trans (if_neg fun h => hb (List.contains_iff_mem.mp h))

/-- Settles O11: the start boundaries are taken in the order drawn, and each timebase, channel and pair of the set is
reached by one of them. -/
theorem tbStartEffect : Obligations.TbStartEffect := by
  refine ⟨fun s seq v hv hready => refused_of_perform (k := .tbStart) hready ?_, fun s seq set hne => ?_⟩
  · simp [perform_tbStart, takeTbStart, u8_single, tbSet?_none hv]
  intro c hready
  have htake := takeTbStart_set hne s.heard
  refine ⟨fun ⟨b, hb, hrun⟩ => refused_of_perform (k := .tbStart) hready (htake.trans (if_pos ?_)), fun hhalt => ?_⟩
  · exact List.any_eq_true.mpr ⟨b, by simpa using hb, by rw [State.heard_tbs, hrun]; rfl⟩
  obtain ⟨order, n, hperm, heq⟩ := s.heard.startTbs_order set
  have hmem (b : Fin 4) : b ∈ order ↔ b ∈ set := by rw [hperm.mem_iff]; simp
  have hnd : order.Nodup := hperm.nodup_iff.mpr ((List.nodup_finRange 4).filter _)
  have hreach := forEach_boundary_reaches (B := (· ∈ set)) (fun b hb => (hmem b).mp hb) (s.heard.going set n)
  have hback := startTbs_background ((List.finRange 4).filter fun b => set.contains b) s.heard
  rw [heq] at hback
  have htb (b : Fin 4) (hb : b ∈ set) := (forEach_boundary_tb (s := s.heard.going set n) hnd ((hmem b).mpr hb)).trans
    (congrArg (Timebase.begin · true) (State.going_tb hb))
  refine ⟨forEach order (State.boundary true) (s.heard.going set n), ?_, htb, ⟨order, n, hperm, rfl⟩, fun b hb => ?_,
    fun x hx hpoint => ?_, fun x hx => ?_, fun k => ?_, hback.link, hreach.faults, hback.routes, hback.idles,
    hreach.units, hback.msPhase, hback.samplePhase⟩
  · rw [← heq]
    refine accepted_of_perform (k := .tbStart) hready (htake.trans (if_neg fun hany => ?_))
    obtain ⟨b, hb, hrun⟩ := List.any_eq_true.mp hany
    have hb : s.tbs[b].state = .halted := hhalt b (by simpa using hb)
    rw [State.heard_tbs, hb] at hrun
    exact absurd hrun (by decide)
  · exact (hreach.tbs b hb).trans (State.going_tb_other hb)
  · rcases hreach.others x hx with h | ⟨⟨p, hp⟩, _⟩
    · exact h
    · exact absurd ((hpoint p).symm.trans hp) (by decide)
  · obtain ⟨h1, h2, h3, h4, h5, h6, h7⟩ :=
      forEach_boundary_handled (s := s.heard.going set n) hnd ((hmem _).mpr hx) rfl
    obtain ⟨g1, g2, g3, g4, g5⟩ := hreach.settings x
    rw [← forEach_boundary_tb hnd ((hmem _).mpr hx)] at h5
    replace h7 := h7.trans (congrArg (s.chans[x].forced && ·) (s.covered_heard x))
    exact ⟨h1, h2, h3, h4, h5, h6, h7, g1, g2, g3, g4, g5⟩
  · by_cases hk : s.chans[evenOf k].tb ∈ set
    · have hpair := forEach_boundary_restarts (s := s.heard.going set n) hnd ((hmem _).mpr hk) rfl
        (by rw [State.going_tb hk]; rfl)
      rw [hpair]
      simp only [hk, true_and]
      rfl
    · rw [if_neg fun h => hk h.2.1]
      exact hreach.pairs k hk

end Sys2Proof.Machine

namespace Sys2Proof.Machine

/-! # What every step keeps, packaged once

A step is a command or a period of the clock, and a command is an event of a block or a frame on the link. An invariant
of the blocks therefore needs one lemma for each event and one for the requests; the arbiter, the handler, the receiver
and the free orders keep it by the theorem `BlockInvariant.step`. -/

/-- The blocks' records are the same; the link, the report queue, the router, the clock counts, the outside lines and the
queue of commands may differ. -/
structure SameBlocks (s t : State) : Prop where
  tbs : t.tbs = s.tbs
  chans : t.chans = s.chans
  free : t.free = s.free
  points : t.points = s.points
  pairs : t.pairs = s.pairs
  faults : t.faults = s.faults
  units : t.units = s.units

theorem SameBlocks.refl (s : State) : SameBlocks s s := ⟨rfl, rfl, rfl, rfl, rfl, rfl, rfl⟩

/-- A property of the blocks' records that every reset gives and every event and every request keeps. -/
structure BlockInvariant (P : State → Prop) : Prop where
  congr : ∀ {s t : State}, P s → SameBlocks s t → P t
  reset : ∀ cause (s : State), P (s.afterReset cause)
  perform : ∀ f (s : State), P s → P (perform f s).2
  clock : ∀ s : State, P s → P (s.mapTbs fun _ tb => tb.clock)
  tick : ∀ (b : Fin 4) (s : State), s.tbs[b].state = .running → P s → P (s.tickTimebase b)
  riseA : ∀ (k : Fin 8) (s : State), s.riseDue k s.pairs[k].riseA true = true → P s →
    P (s.modPair k fun p => { p with a := true, riseA := none })
  riseB : ∀ (k : Fin 8) (s : State), s.riseDue k s.pairs[k].riseB false = true → P s →
    P (s.modPair k fun p => { p with b := true, riseB := none })
  sample : ∀ (lines : InputLines) (s : State), P s →
    P ((s.mapUnits fun u unit => unit.sample lines.tach[u]).sampleFaults lines.flt)
  advance : ∀ s : State, P s → P s.advanceTimers
  gather : ∀ p (s : State), s.due (.gather p) = true → P s → P (s.expireGathering p)
  window : ∀ u (s : State), s.due (.window u) = true → P s → P (s.expireWindow u)
  silenceOn : ∀ s : State, P s → P (s.activateFault silence)
  silenceOff : ∀ s : State, P s → P (s.deactivateFault silence)

namespace BlockInvariant

variable {P : State → Prop} {s t : State}

theorem modLink (h : BlockInvariant P) (hs : P s) (f : Link → Link) : P (s.modLink f) :=
  h.congr hs ⟨rfl, rfl, rfl, rfl, rfl, rfl, rfl⟩

theorem arbitrate (h : BlockInvariant P) (hs : P s) : P s.arbitrate := by
  obtain ⟨l, q, heq⟩ := s.arbitrate_frame
  rw [heq]
  exact h.congr hs ⟨rfl, rfl, rfl, rfl, rfl, rfl, rfl⟩

theorem takeRequest (h : BlockInvariant P) (hs : P s) : P s.takeRequest := by
  unfold State.takeRequest
  split
  · exact hs
  · next f rest _ =>
    have htaken : P (s.modLink fun l => { l with inbound := rest }) := h.modLink hs _
    unfold State.handle
    split
    · exact h.modLink htaken _
    · exact h.congr (h.perform f _ htaken) ⟨rfl, rfl, rfl, rfl, rfl, rfl, rfl⟩

theorem settleFor (h : BlockInvariant P) (n : Nat) (hs : P s) : P (State.settleFor n s) := by
  induction n generalizing s with
  | zero => exact h.arbitrate hs
  | succ n ih =>
    unfold State.settleFor
    dsimp only
    split
    · exact ih (h.takeRequest (h.arbitrate hs))
    · exact h.arbitrate hs

theorem settle (h : BlockInvariant P) (hs : P s) : P s.settle := h.settleFor _ hs

theorem deliver (h : BlockInvariant P) (hs : P s) (f : Frame) : P (s.deliver f) := by
  have hoffered : P (s.arbitrate.hearHost.modLink fun l => l.offerFrame f) :=
    h.modLink (h.silenceOff _ (h.modLink (h.arbitrate hs) _)) _
  unfold State.deliver
  dsimp only
  split
  · exact h.settle (h.takeRequest hoffered)
  · exact h.settle hoffered

theorem receiveRequest (h : BlockInvariant P) (hs : P s) (type seq : Byte) (payload : List Byte) :
    P (receiveRequest type seq payload s) := by
  unfold Machine.receiveRequest
  split
  · exact hs
  · exact h.deliver (h.modLink hs _) _

theorem receiveByte (h : BlockInvariant P) (hs : P s) (b : Byte) : P (s.receiveByte b) := by
  unfold State.receiveByte
  split
  · split
    · exact h.modLink hs _
    · exact hs
  · split <;> exact h.modLink hs _
  · exact h.modLink hs _
  · exact h.modLink hs _
  · unfold State.checkFrame
    dsimp only
    split
    · exact h.deliver (h.modLink hs _) _
    · exact h.modLink (h.modLink hs _) _

theorem applyTied (h : BlockInvariant P) (hs : P s) (tied : Tied) : P (s.applyTied tied) := by
  cases tied with
  | none => exact hs
  | rate => exact h.modLink hs _
  | softReset => exact h.reset _ _

theorem expire (h : BlockInvariant P) (hs : P s) {m : MsTimer} (hdue : s.due m = true) : P (s.expire m) := by
  cases m with
  | gather p => exact h.gather p s hdue hs
  | window u => exact h.window u s hdue hs
  | silence => exact h.silenceOn _ (h.modLink hs _)
  | interByte => exact h.modLink hs _
  | breakDetector => exact h.congr hs ⟨rfl, rfl, rfl, rfl, rfl, rfl, rfl⟩

theorem takeExpiry (h : BlockInvariant P) (hs : P s) (m : MsTimer) : P (s.takeExpiry m) := by
  unfold State.takeExpiry
  dsimp only
  split
  · next hdue =>
    exact h.congr (h.expire hs (Bool.and_eq_true_iff.mp hdue).1) ⟨rfl, rfl, rfl, rfl, rfl, rfl, rfl⟩
  · exact hs

theorem expireIfDue (h : BlockInvariant P) (hs : P s) (m : MsTimer) : P (s.expireIfDue m) := by
  unfold State.expireIfDue
  split
  · next hdue => exact h.settle (h.expire hs hdue)
  · exact hs

theorem tickMillisecond (h : BlockInvariant P) (hs : P s) : P s.tickMillisecond := by
  have hall : P (forEachInAnyOrder s.dueTimers State.expireIfDue s.advanceTimers) :=
    forEachInAnyOrder_induction P _ _ (fun _ _ hu => h.congr hu ⟨rfl, rfl, rfl, rfl, rfl, rfl, rfl⟩)
      (fun m _ _ hu => h.expireIfDue hu m) _ (h.advance s hs)
  exact h.congr hall ⟨rfl, rfl, rfl, rfl, rfl, rfl, rfl⟩

theorem event (h : BlockInvariant P) (hs : P s) {f : State → State} (hf : P (f s)) (ht : s.event f = .next t) :
    P t := by
  cases ht
  split
  · exact hs
  · exact h.settle hf

theorem execBoundary (h : BlockInvariant P) (hs : P s) (b : Fin 4) (ht : execBoundary b s = .next t) : P t := by
  refine h.event hs ?_ ht
  split
  · next hb =>
    obtain ⟨hrun, hend⟩ := hb
    have htick : s.tickTimebase b = s.boundary false b := if_pos hend
    exact htick ▸ h.tick b s hrun hs
  · exact hs

theorem execPairRiseDelayExpiry (h : BlockInvariant P) (hs : P s) (k : Fin 8)
    (ht : execPairRiseDelayExpiry k s = .next t) : P t := by
  refine h.event hs ?_ ht
  split
  · next hdue => exact h.riseA k s hdue hs
  · split
    · next hdue => exact h.riseB k s hdue hs
    · exact hs

theorem execInputSample (h : BlockInvariant P) (hs : P s) (lines : InputLines)
    (ht : execInputSample lines s = .next t) : P t := by
  have hlines : P { s with inputs := lines, samplePhase := 0 } := h.congr hs ⟨rfl, rfl, rfl, rfl, rfl, rfl, rfl⟩
  exact h.event hs (h.sample lines _ hlines) ht

theorem execTransmitCompletion (h : BlockInvariant P) (hs : P s) (ht : execTransmitCompletion s = .next t) : P t := by
  unfold Machine.execTransmitCompletion at ht
  split at ht
  · cases ht
    refine h.settle ?_
    split
    · exact h.applyTied (h.modLink hs _) _
    · exact h.modLink hs _
  · cases ht; exact hs
  · cases ht; exact hs

theorem execAbortedFrameEnd (h : BlockInvariant P) (hs : P s) (ht : execAbortedFrameEnd s = .next t) : P t := by
  unfold Machine.execAbortedFrameEnd at ht
  split at ht <;> cases ht
  · exact h.settle (h.modLink hs _)
  · exact hs
  · exact hs

/-- Every command keeps it: a request frame by what `perform` does, an event by its own block. -/
theorem exec (h : BlockInvariant P) (hs : P s) (c : Instr) (ht : exec c s = .next t) : P t := by
  have request (type seq : Byte) (payload : List Byte)
      (hr : Host.Outcome.next (Machine.receiveRequest type seq payload s) =
        (.next t : Host.Outcome State Fault Refusal)) : P t :=
    Host.Outcome.next.inj hr ▸ h.receiveRequest hs type seq payload
  cases c with
  | powerOnReset => cases ht; exact h.settle (h.reset _ _)
  | rstNAssert => cases ht; exact h.congr (h.reset .pin s) ⟨rfl, rfl, rfl, rfl, rfl, rfl, rfl⟩
  | pinReset => cases ht; exact h.settle (h.reset _ _)
  | millisecondTick => exact h.event hs (h.tickMillisecond hs) ht
  | timebaseTick b =>
    refine h.event hs ?_ ht
    split
    · next hrun => exact h.tick b s hrun hs
    · exact hs
  | boundary b => exact h.execBoundary hs b ht
  | pairRiseDelayExpiry k => exact h.execPairRiseDelayExpiry hs k ht
  | inputSample lines => exact h.execInputSample hs lines ht
  | gatheringTimerExpiry p => exact h.event hs (h.takeExpiry hs _) ht
  | speedWindowExpiry u => exact h.event hs (h.takeExpiry hs _) ht
  | hostSilenceExpiry => exact h.event hs (h.takeExpiry hs _) ht
  | interByteTimeout => exact h.event hs (h.takeExpiry hs _) ht
  | linkBreak => exact h.event hs (h.takeExpiry hs _) ht
  | characterReceived b =>
    cases ht
    split
    · exact hs
    · exact h.settle (h.receiveByte (h.modLink hs _) b)
  | characterFault =>
    cases ht
    split
    · exact hs
    · exact h.modLink hs _
  | transmitCompletion => exact h.execTransmitCompletion hs ht
  | abortedFrameEnd => exact h.execAbortedFrameEnd hs ht
  | rxdRisingEdge => cases ht; exact h.modLink hs _
  | rxdFallingEdge => cases ht; exact h.modLink hs _
  | _ => exact request _ _ _ ht

theorem clockPeriod (h : BlockInvariant P) (hs : P s) : P s.clockPeriod :=
  h.congr (h.clock s hs) ⟨rfl, rfl, rfl, rfl, rfl, rfl, rfl⟩

/-- What holds after every event and every request holds after every step. -/
theorem step (h : BlockInvariant P) (hs : P s) (ht : step s = .next t) : P t := by
  unfold Machine.step at ht
  split at ht
  · next c rest _ =>
    have hrest : P { s with pending := rest } := h.congr hs ⟨rfl, rfl, rfl, rfl, rfl, rfl, rfl⟩
    exact h.exec hrest c ht
  · refine State.idleStep_induction P s t ht hs (h.clockPeriod (h.arbitrate hs)) fun c _ n u hu => ?_
    have hdrawn : P { s with choice := n } := h.congr hs ⟨rfl, rfl, rfl, rfl, rfl, rfl, rfl⟩
    exact h.exec hdrawn c hu

end BlockInvariant

end Sys2Proof.Machine

namespace Sys2Proof.Machine

/-! # O50: the segment pool

Only SEG_APPEND and SEG_REPLACE take records and only CH_QUOTA changes a quota, so the rest of the part is described by
one relation, `GivesBack`, and Laws 1 and 2 need arithmetic of their own at those three requests alone. -/

/-! ## The records held by all channels -/

theorem State.recordsHeld_eq_sum (s : State) : s.recordsHeld = ∑ c : Fin 16, s.chans[c].holds :=
  (Fin.sum_univ_def _).symm

/-- One channel's holding changes the sum by its own difference. -/
theorem State.recordsHeld_of_one {s t : State} {c : Fin 16}
    (h : ∀ j : Fin 16, j ≠ c → t.chans[j].holds = s.chans[j].holds) :
    t.recordsHeld + s.chans[c].holds = s.recordsHeld + t.chans[c].holds := by
  have hrest : ∑ j ∈ Finset.univ.erase c, t.chans[j].holds = ∑ j ∈ Finset.univ.erase c, s.chans[j].holds :=
    Finset.sum_congr rfl fun j hj => h j (Finset.ne_of_mem_erase hj)
  have hs := Finset.sum_erase_add Finset.univ (fun j : Fin 16 => s.chans[j].holds) (Finset.mem_univ c)
  have ht := Finset.sum_erase_add Finset.univ (fun j : Fin 16 => t.chans[j].holds) (Finset.mem_univ c)
  rw [State.recordsHeld_eq_sum, State.recordsHeld_eq_sum]
  omega

theorem Channel.holds_of_replacement {ch : Channel} {r : Replacement} (h : ch.replacement = some r) :
    ch.holds = ch.queue.length + r.segments.length := by
  simp [Channel.holds, h]

theorem Channel.holds_of_no_replacement {ch : Channel} (h : ch.replacement = none) :
    ch.holds = ch.queue.length := by
  simp [Channel.holds, h]

/-! ## Records that return to the free list -/

/-- No record is taken: what a channel no longer holds is free, and no quota changes. -/
structure GivesBack (s t : State) : Prop where
  records : t.free + t.recordsHeld = s.free + s.recordsHeld
  holds : ∀ c : Fin 16, t.chans[c].holds ≤ s.chans[c].holds
  quota : ∀ c : Fin 16, t.chans[c].quota = s.chans[c].quota

namespace GivesBack

theorem of_eq {s t : State} (hc : t.chans = s.chans) (hf : t.free = s.free) : GivesBack s t where
  records := by rw [State.recordsHeld, State.recordsHeld, hc, hf]
  holds c := by rw [hc]
  quota c := by rw [hc]

theorem refl (s : State) : GivesBack s s := of_eq rfl rfl

theorem trans {s t u : State} (h : GivesBack s t) (g : GivesBack t u) : GivesBack s u where
  records := g.records.trans h.records
  holds c := (g.holds c).trans (h.holds c)
  quota c := (g.quota c).trans (h.quota c)

/-- A channel gives up `n` records, which become free. -/
theorem free {s : State} {c : Fin 16} {f : Channel → Channel} {n : Nat}
    (hn : (f s.chans[c]).holds + n = s.chans[c].holds) (hq : (f s.chans[c]).quota = s.chans[c].quota) :
    GivesBack s { s.modChan c f with free := s.free + n } where
  records := by
    have hone := State.recordsHeld_of_one (s := s) (t := { s.modChan c f with free := s.free + n }) (c := c)
      fun j hj => by rw [State.modChan_get, if_neg hj]
    rw [State.modChan_get, if_pos rfl] at hone
    show s.free + n + _ = _
    omega
  holds j := by
    rw [State.modChan_get]
    split
    · next hj => subst hj; omega
    · exact le_rfl
  quota j := by
    rw [State.modChan_get]
    split
    · next hj => subst hj; exact hq
    · rfl

/-- A change of a channel that leaves its count of records and its quota. -/
theorem modChan {s : State} {c : Fin 16} {f : Channel → Channel} (hh : (f s.chans[c]).holds = s.chans[c].holds)
    (hq : (f s.chans[c]).quota = s.chans[c].quota) : GivesBack s (s.modChan c f) :=
  free (n := 0) hh hq

theorem mapChans {s : State} {f : Fin 16 → Channel → Channel}
    (h : ∀ c : Fin 16, (f c s.chans[c]).holds = s.chans[c].holds ∧ (f c s.chans[c]).quota = s.chans[c].quota) :
    GivesBack s (s.mapChans f) where
  records := by simp only [State.recordsHeld, State.mapChans_get, State.mapChans_free, fun c => (h c).1]
  holds c := by rw [State.mapChans_get]; exact (h c).1.le
  quota c := by rw [State.mapChans_get]; exact (h c).2

theorem modTb (b : Fin 4) (f : Timebase → Timebase) (s : State) : GivesBack s (s.modTb b f) := of_eq rfl rfl

theorem modPoint (p : Fin 8) (f : Point → Point) (s : State) : GivesBack s (s.modPoint p f) := of_eq rfl rfl

theorem modPair (k : Fin 8) (f : Pair → Pair) (s : State) : GivesBack s (s.modPair k f) := of_eq rfl rfl

theorem modFault (i : Fin 4) (f : FaultSource → FaultSource) (s : State) : GivesBack s (s.modFault i f) :=
  of_eq rfl rfl

theorem modUnit (u : Fin 4) (f : SpeedUnit → SpeedUnit) (s : State) : GivesBack s (s.modUnit u f) := of_eq rfl rfl

theorem mapUnits (f : Fin 4 → SpeedUnit → SpeedUnit) (s : State) : GivesBack s (s.mapUnits f) := of_eq rfl rfl

theorem offer (r : Report) (s : State) : GivesBack s (s.offer r) := of_eq rfl rfl

theorem offerIf (n : Option Byte) (r : Byte → Report) (s : State) : GivesBack s (s.offerIf n r) :=
  of_eq (by simp) (by simp)

theorem forEach {α : Type} (xs : List α) (f : α → State → State) (h : ∀ x s, GivesBack s (f x s)) (s : State) :
    GivesBack s (forEach xs f s) :=
  forEach_induction (GivesBack s) xs f (fun x _ t ht => ht.trans (h x t)) s (refl s)

theorem forEachInAnyOrder {α : Type} (xs : List α) (f : α → State → State) (h : ∀ x s, GivesBack s (f x s))
    (s : State) : GivesBack s (forEachInAnyOrder xs f s) :=
  forEachInAnyOrder_induction (GivesBack s) xs f (fun _ _ ht => ht.trans (of_eq rfl rfl))
    (fun x _ t ht => ht.trans (h x t)) s (refl s)

end GivesBack

/-! ## The pool (R31 to R33) -/

theorem freeQueue_givesBack (c : Fin 16) (s : State) : GivesBack s (s.freeQueue c) :=
  .free (n := s.chans[c].queue.length) (by simp only [Channel.holds, List.length_nil]; omega) rfl

/-- With its list freed a channel holds its queue (R33). -/
theorem freeReplacement_givesBack (c : Fin 16) (s : State) : GivesBack s (s.freeReplacement c) := by
  unfold State.freeReplacement
  split
  · exact .refl s
  · next r hr => exact .free (Channel.holds_of_replacement hr).symm rfl

theorem supersedeReplacement_givesBack (c : Fin 16) (s : State) : GivesBack s (s.supersedeReplacement c) := by
  unfold State.supersedeReplacement
  split
  · exact .refl s
  · exact (freeReplacement_givesBack c s).trans (.offerIf _ _ _)

/-- The promoted list stays held as the queue; the old queue is what becomes free (R33). -/
theorem promote_givesBack (c : Fin 16) (s : State) : GivesBack s (s.promote c) := by
  unfold State.promote
  split
  · exact .refl s
  · next r hr =>
    refine .free ?_ rfl
    rw [Channel.holds_of_replacement hr, Nat.add_comm]
    rfl

/-- Retiring frees one record, rotating none (R31, R32). -/
theorem completeHead_givesBack (c : Fin 16) (s : State) : GivesBack s (s.completeHead c) := by
  unfold State.completeHead
  split
  · exact .refl s
  · next head rest hq =>
    split
    · refine .free ?_ rfl
      simp only [Channel.holds, hq, List.length_cons]
      omega
    · refine .modChan ?_ rfl
      simp only [Channel.holds, hq, List.length_append, List.length_cons, List.length_nil]

/-! ## Rendezvous and pairs -/

theorem releaseChannels_givesBack (set : ChSet) (s : State) : GivesBack s (s.releaseChannels set) :=
  .mapChans fun c => by split <;> exact ⟨rfl, rfl⟩

theorem completeRelease_givesBack (p : Fin 8) (s : State) : GivesBack s (s.completeRelease p) :=
  ((releaseChannels_givesBack _ s).trans (.modPoint _ _ _)).trans (.offer _ _)

theorem expireGathering_givesBack (p : Fin 8) (s : State) : GivesBack s (s.expireGathering p) :=
  ((releaseChannels_givesBack _ s).trans (.modPoint _ _ _)).trans (.offer _ _)

theorem arrive_givesBack (c : Fin 16) (p : Fin 8) (s : State) : GivesBack s (s.arrive c p) := by
  unfold State.arrive
  split
  · exact completeRelease_givesBack p s
  · exact (GivesBack.modPoint _ _ s).trans (.modChan rfl rfl)

theorem withdraw_givesBack (c : Fin 16) (s : State) : GivesBack s (s.withdraw c) := by
  unfold State.withdraw
  split
  · exact .of_eq rfl rfl
  · exact .refl s

theorem restartPair_givesBack (k : Fin 8) (s : State) : GivesBack s (s.restartPair k) := by
  unfold State.restartPair
  split
  · exact .of_eq rfl rfl
  · exact .refl s

theorem rebindPair_givesBack (c : Fin 16) (s old : State) : GivesBack s (s.rebindPair c old) := by
  unfold State.rebindPair
  dsimp only
  split
  · exact .refl s
  · split
    · split
      · exact .of_eq rfl rfl
      · exact .refl s
    · split
      · exact restartPair_givesBack _ s
      · split
        · exact .refl s
        · exact .of_eq rfl rfl

/-! ## The boundary (chapter 3) -/

theorem stageLevel_givesBack (c : Fin 16) (s : State) : GivesBack s (s.stageLevel c) := by
  unfold State.stageLevel
  split
  · exact .refl s
  · exact (GivesBack.modChan rfl rfl).trans (.offerIf _ _ _)

theorem stageReplacement_givesBack (c : Fin 16) (s : State) : GivesBack s (s.stageReplacement c) := by
  have hruns (t : State) : GivesBack t
      (t.modChan c fun ch => { ch with state := if ch.state = .waiting then .running else ch.state }) :=
    .modChan rfl rfl
  unfold State.stageReplacement
  split
  · exact .refl s
  · exact (((withdraw_givesBack c s).trans (promote_givesBack c _)).trans (hruns _)).trans (.offerIf _ _ _)

theorem stageControl_givesBack (c : Fin 16) (s : State) : GivesBack s (s.stageControl c) := .modChan rfl rfl

theorem endProgram_givesBack (c : Fin 16) (s : State) : GivesBack s (s.endProgram c) :=
  (GivesBack.offer _ s).trans (.modChan rfl rfl)

theorem startHeads_givesBack (c : Fin 16) (n : Nat) (s : State) : GivesBack s (State.startHeads c n s) := by
  induction n generalizing s with
  | zero =>
    unfold State.startHeads
    split
    · exact endProgram_givesBack c s
    · exact .refl s
  | succ n ih =>
    unfold State.startHeads
    split
    · exact endProgram_givesBack c s
    · exact ((GivesBack.modChan rfl rfl).trans (completeHead_givesBack c _)).trans (ih _)
    · exact ((GivesBack.offer _ s).trans (completeHead_givesBack c _)).trans (ih _)
    · exact .modChan rfl rfl
    · exact .modChan rfl rfl
    · split
      · exact arrive_givesBack _ _ s
      · exact ((GivesBack.offer _ s).trans (completeHead_givesBack c _)).trans (ih _)

theorem stageAdvance_givesBack (c : Fin 16) (s : State) : GivesBack s (s.stageAdvance c) := by
  unfold State.stageAdvance
  dsimp only
  split
  · exact .refl s
  · split
    · exact startHeads_givesBack c _ s
    · exact .modChan rfl rfl
    · exact (completeHead_givesBack c s).trans (startHeads_givesBack c _ _)
    · exact .refl s

theorem stageLatch_givesBack (c : Fin 16) (s : State) : GivesBack s (s.stageLatch c) := .modChan rfl rfl

theorem stageUnforce_givesBack (c : Fin 16) (s : State) : GivesBack s (s.stageUnforce c) := by
  unfold State.stageUnforce
  split
  · exact .modChan rfl rfl
  · exact .refl s

theorem boundaryPair_givesBack (c : Fin 16) (starts x : Bool) (s before : State) :
    GivesBack s (s.boundaryPair c starts x before) := by
  unfold State.boundaryPair
  dsimp only
  split
  · exact .refl s
  · split
    · exact restartPair_givesBack _ s
    · exact .of_eq rfl rfl

theorem sixStages_givesBack (c : Fin 16) (s : State) : GivesBack s (s.sixStages c) := by
  unfold State.sixStages State.fiveStages
  exact (((((stageLevel_givesBack c s).trans (stageReplacement_givesBack c _)).trans
    (stageControl_givesBack c _)).trans (stageAdvance_givesBack c _)).trans (stageLatch_givesBack c _)).trans
    (stageUnforce_givesBack c _)

theorem handleBoundary_givesBack (starts : Bool) (c : Fin 16) (s old : State) :
    GivesBack s (s.handleBoundary starts c old) := by
  rw [State.handleBoundary_eq]
  exact (sixStages_givesBack c s).trans (boundaryPair_givesBack c _ _ _ _)

theorem takeBoundaryPart_givesBack (b : Fin 4) (starts : Bool) (old : State) (part : BoundaryPart) (s : State) :
    GivesBack s (State.takeBoundaryPart b starts old part s) := by
  cases part with
  | applied seq => exact .offer _ s
  | channel c => exact handleBoundary_givesBack starts c s old

theorem boundary_givesBack (starts : Bool) (b : Fin 4) (s : State) : GivesBack s (s.boundary starts b) :=
  (GivesBack.modTb b _ s).trans (.forEachInAnyOrder _ _ (takeBoundaryPart_givesBack b starts s) _)

theorem tickTimebase_givesBack (b : Fin 4) (s : State) : GivesBack s (s.tickTimebase b) := by
  unfold State.tickTimebase
  split
  · exact boundary_givesBack false b s
  · exact .of_eq rfl rfl

theorem startTbs_givesBack (set : List (Fin 4)) (s : State) : GivesBack s (s.startTbs set) := by
  unfold State.startTbs
  exact (GivesBack.of_eq (by simp) (by simp)).trans (.forEachInAnyOrder _ _ (boundary_givesBack true) _)

/-! ## Faults and speed units (chapters 7 and 8) -/

theorem forceChannel_givesBack (c : Fin 16) (s : State) : GivesBack s (s.forceChannel c) := by
  have hforced : GivesBack s (s.modChan c fun ch => { ch with forced := true }) := .modChan rfl rfl
  unfold State.forceChannel State.forcePair
  split
  · exact hforced.trans (.of_eq rfl rfl)
  · exact hforced

theorem stopChannel_givesBack (c : Fin 16) (s : State) : GivesBack s (s.stopChannel c) := by
  unfold State.stopChannel
  split
  · exact .refl s
  · exact (withdraw_givesBack c s).trans (.modChan rfl rfl)

theorem coverChannel_givesBack (f : Fin 4) (c : Fin 16) (s : State) : GivesBack s (s.coverChannel f c) := by
  unfold State.coverChannel
  split
  · exact .refl s
  · exact forceChannel_givesBack c s
  · exact (forceChannel_givesBack c s).trans (stopChannel_givesBack c _)

theorem activateFault_givesBack (f : Fin 4) (s : State) : GivesBack s (s.activateFault f) := by
  unfold State.activateFault State.latchFault
  dsimp only
  split
  · exact .modFault f _ s
  · exact (((GivesBack.modFault f _ s).trans (.offer _ _)).trans (.modFault f _ _)).trans
      (.forEach _ _ (coverChannel_givesBack f) _)

theorem sampleFaults_givesBack (flt : Vector Bool 2) (s : State) : GivesBack s (s.sampleFaults flt) :=
  ((GivesBack.modFault 0 _ s).trans (.modFault 1 _ _)).trans (.forEachInAnyOrder _ _ activateFault_givesBack _)

theorem settleSpeed_givesBack (s : State) : GivesBack s s.settleSpeed := by
  unfold State.settleSpeed
  split
  · exact .refl s
  · exact .of_eq rfl rfl

theorem windowEffect_givesBack (e : WindowEffect) (s : State) : GivesBack s (s.windowEffect e) := by
  cases e with
  | report r => exact .offer r s
  | raiseSpeed => exact activateFault_givesBack speed s

theorem expireWindow_givesBack (u : Fin 4) (s : State) : GivesBack s (s.expireWindow u) :=
  ((GivesBack.modUnit u _ s).trans (.forEachInAnyOrder _ _ windowEffect_givesBack _)).trans (settleSpeed_givesBack _)

theorem clearFault_givesBack (f : Fin 4) (s : State) : GivesBack s (s.clearFault f) :=
  ((GivesBack.modFault f _ s).trans (.offer _ _)).trans (.mapChans fun c => by split <;> exact ⟨rfl, rfl⟩)

end Sys2Proof.Machine

namespace Sys2Proof.Machine

/-! ## Requests that take no record -/

theorem firstFailure_eq_none_iff (tests : List (Bool × Status)) :
    firstFailure tests = none ↔ ∀ x ∈ tests, x.1 = false := by
  induction tests with
  | nil => simp [firstFailure]
  | cons x rest ih =>
    obtain ⟨fails, st⟩ := x
    cases fails <;> simp [firstFailure, ih]

theorem accept_givesBack {s t : State} (st : Status) (payload : List Byte) (h : GivesBack s t) :
    GivesBack s (accept st payload t).2 := h

theorem checked_givesBack {tests : List (Bool × Status)} {s : State} {e : Reply × State} (h : GivesBack s e.2) :
    GivesBack s (checked tests s e).2 := by
  rcases checked_cases tests s e with ⟨st, hr⟩ | hr
  · rw [hr]; exact .refl s
  · rw [hr]; exact h

theorem forSet_givesBack {p : List Byte} {s : State} {bad : Channel → Bool} {effect : ChSet → Reply × State}
    (h : ∀ set, GivesBack s (effect set).2) : GivesBack s (forSet p s bad effect).2 := by
  unfold forSet
  split
  · exact .refl s
  · exact checked_givesBack (h _)

theorem modSet_givesBack {s : State} {set : ChSet} {f : Channel → Channel}
    (h : ∀ ch, (f ch).holds = ch.holds ∧ (f ch).quota = ch.quota) : GivesBack s (s.modSet set f) :=
  .mapChans fun c => by
    split
    · exact h _
    · exact ⟨rfl, rfl⟩

theorem dropPendingPeriod_givesBack (b : Fin 4) (s : State) : GivesBack s (s.dropPendingPeriod b) :=
  (GivesBack.modTb b _ s).trans (.offerIf _ _ _)

theorem takeTbConfig_givesBack (p : List Byte) (s : State) : GivesBack s (takeTbConfig p s).2 := by
  unfold takeTbConfig
  split
  · exact .refl s
  · split
    · split
      · exact .refl s
      · exact accept_givesBack _ _ ((dropPendingPeriod_givesBack _ s).trans (.modTb _ _ _))
    · exact .refl s

theorem takeTbStart_givesBack (p : List Byte) (s : State) : GivesBack s (takeTbStart p s).2 := by
  unfold takeTbStart
  split
  · exact .refl s
  · split
    · exact .refl s
    · split
      · exact .refl s
      · exact startTbs_givesBack _ s

theorem takeTbStop_givesBack (p : List Byte) (s : State) : GivesBack s (takeTbStop p s).2 := by
  unfold takeTbStop
  split
  · exact .refl s
  · split
    · exact .refl s
    · exact .of_eq rfl rfl

theorem takeTbPeriod_givesBack (seq : Byte) (p : List Byte) (s : State) : GivesBack s (takeTbPeriod seq p s).2 := by
  unfold takeTbPeriod
  split
  · exact .refl s
  · split
    · split
      · exact accept_givesBack _ _ ((dropPendingPeriod_givesBack _ s).trans (.modTb _ _ _))
      · exact accept_givesBack _ _ ((dropPendingPeriod_givesBack _ s).trans (.modTb _ _ _))
      · split
        · exact accept_givesBack _ _ ((dropPendingPeriod_givesBack _ s).trans (.modTb _ _ _))
        · exact accept_givesBack _ _ (((dropPendingPeriod_givesBack _ s).trans (.modTb _ _ _)).trans (.offer _ _))
    · exact .refl s

theorem configChannel_givesBack (c : Fin 16) (tb : Fin 4) (mode : Mode) (safe : Bool) (s : State) :
    GivesBack s (s.configChannel c tb mode safe) :=
  .mapChans fun i => by
    split
    · exact ⟨rfl, rfl⟩
    · split <;> exact ⟨rfl, rfl⟩

theorem takeChConfig_givesBack (p : List Byte) (s : State) : GivesBack s (takeChConfig p s).2 := by
  unfold takeChConfig
  split
  · exact .refl s
  · split
    · exact checked_givesBack (accept_givesBack _ _
        ((configChannel_givesBack _ _ _ _ s).trans (rebindPair_givesBack _ _ s)))
    · exact .refl s

theorem takeChLevel_givesBack (seq : Byte) (p : List Byte) (s : State) : GivesBack s (takeChLevel seq p s).2 := by
  unfold takeChLevel
  split
  · exact .refl s
  · split
    · exact checked_givesBack (accept_givesBack _ _ ((GivesBack.modChan rfl rfl).trans (.offerIf _ _ _)))
    · exact .refl s

theorem takeChStart_givesBack (p : List Byte) (s : State) : GivesBack s (takeChStart p s).2 :=
  forSet_givesBack fun _ => accept_givesBack _ _ (modSet_givesBack fun _ => ⟨rfl, rfl⟩)

theorem takeChPause_givesBack (p : List Byte) (s : State) : GivesBack s (takeChPause p s).2 :=
  forSet_givesBack fun _ => accept_givesBack _ _ (modSet_givesBack fun _ => ⟨rfl, rfl⟩)

theorem takeChResume_givesBack (p : List Byte) (s : State) : GivesBack s (takeChResume p s).2 :=
  forSet_givesBack fun _ => accept_givesBack _ _ (modSet_givesBack fun _ => ⟨rfl, rfl⟩)

theorem flushChannel_givesBack (c : Fin 16) (s : State) : GivesBack s (s.flushChannel c) := by
  have hfreed := ((withdraw_givesBack c s).trans (freeQueue_givesBack c _)).trans (supersedeReplacement_givesBack c _)
  unfold State.flushChannel
  exact hfreed.trans (.modChan rfl rfl)

theorem takeChFlush_givesBack (p : List Byte) (s : State) : GivesBack s (takeChFlush p s).2 :=
  forSet_givesBack fun _ => accept_givesBack _ _ (.forEachInAnyOrder _ _ flushChannel_givesBack s)

theorem takeRpDefine_givesBack (p : List Byte) (s : State) : GivesBack s (takeRpDefine p s).2 := by
  unfold takeRpDefine
  split
  · exact .refl s
  · split
    · split
      · exact .refl s
      · exact accept_givesBack _ _ (.modPoint _ _ s)
    · exact .refl s

theorem coverRetested_givesBack (k : Fin 8) (s : State) : GivesBack s (s.coverRetested k) :=
  .forEach _ _ (fun f => coverChannel_givesBack f _) s

theorem enablePair_givesBack (k : Fin 8) (d : Nat) (s : State) : GivesBack s (s.enablePair k d) := by
  unfold State.enablePair
  exact ((GivesBack.modPair k _ s).trans (.modChan rfl rfl)).trans (restartPair_givesBack k _)

theorem disablePair_givesBack (k : Fin 8) (d : Nat) (s : State) : GivesBack s (s.disablePair k d) := by
  unfold State.disablePair
  exact (GivesBack.modPair k _ s).trans (.modChan rfl rfl)

theorem configPair_givesBack (k : Fin 8) (enable : Bool) (d : Nat) (s : State) :
    GivesBack s (s.configPair k enable d) := by
  unfold State.configPair
  split
  · exact (enablePair_givesBack k d s).trans (coverRetested_givesBack k _)
  · exact .modPair k _ s
  · exact (disablePair_givesBack k d s).trans (coverRetested_givesBack k _)
  · exact .modPair k _ s

theorem takePairConfig_givesBack (p : List Byte) (s : State) : GivesBack s (takePairConfig p s).2 := by
  unfold takePairConfig
  split
  · exact .refl s
  · split
    · split
      · exact .refl s
      · exact configPair_givesBack _ _ _ s
    · exact .refl s

theorem takeFaultClear_givesBack (p : List Byte) (s : State) : GivesBack s (takeFaultClear p s).2 := by
  unfold takeFaultClear
  split
  · exact .refl s
  · split
    · exact .refl s
    · split
      · exact .refl s
      · split
        · exact clearFault_givesBack _ s
        · exact .refl s

theorem takeSmConfig_givesBack (p : List Byte) (s : State) : GivesBack s (takeSmConfig p s).2 := by
  unfold takeSmConfig
  split
  · exact .refl s
  · split
    · exact (GivesBack.modUnit _ _ s).trans (settleSpeed_givesBack _)
    · exact .refl s

/-! ## Requests that change no block: to the link, the router and the report queue, and the queries -/

theorem takeGetInfo_sameBlocks (p : List Byte) (s : State) : SameBlocks s (takeGetInfo p s).2 := by
  unfold takeGetInfo
  split <;> exact .refl s

theorem takeGetStatus_sameBlocks (p : List Byte) (s : State) : SameBlocks s (takeGetStatus p s).2 := by
  unfold takeGetStatus
  split
  · exact .refl s
  · split
    · exact .refl s
    · simp only [accept]
      split <;> exact ⟨rfl, rfl, rfl, rfl, rfl, rfl, rfl⟩

theorem changeLink_sameBlocks (rate : Option Rate) (window limit : Option Nat) (s : State) :
    SameBlocks s (s.changeLink rate window limit) := by
  unfold State.changeLink
  cases rate <;> cases window <;> cases limit <;> exact ⟨rfl, rfl, rfl, rfl, rfl, rfl, rfl⟩

theorem takeSetLink_sameBlocks (p : List Byte) (s : State) : SameBlocks s (takeSetLink p s).2 := by
  unfold takeSetLink
  split
  · exact .refl s
  · split
    · split
      · exact .refl s
      · exact changeLink_sameBlocks _ _ _ s
    · exact .refl s

theorem takeResetDevice_sameBlocks (p : List Byte) (s : State) : SameBlocks s (takeResetDevice p s).2 := by
  unfold takeResetDevice
  split <;> exact .refl s

theorem takeTbQuery_sameBlocks (p : List Byte) (s : State) : SameBlocks s (takeTbQuery p s).2 := by
  unfold takeTbQuery
  split
  · exact .refl s
  · split <;> exact .refl s

theorem takeChQuery_sameBlocks (p : List Byte) (s : State) : SameBlocks s (takeChQuery p s).2 := by
  unfold takeChQuery
  split
  · exact .refl s
  · split <;> exact .refl s

theorem takeRpQuery_sameBlocks (p : List Byte) (s : State) : SameBlocks s (takeRpQuery p s).2 := by
  unfold takeRpQuery
  split
  · exact .refl s
  · split <;> exact .refl s

theorem takeFaultQuery_sameBlocks (p : List Byte) (s : State) : SameBlocks s (takeFaultQuery p s).2 := by
  unfold takeFaultQuery
  split
  · exact .refl s
  · split <;> exact .refl s

theorem takeSmQuery_sameBlocks (p : List Byte) (s : State) : SameBlocks s (takeSmQuery p s).2 := by
  unfold takeSmQuery
  split
  · exact .refl s
  · split <;> exact .refl s

theorem takeOutQuery_sameBlocks (p : List Byte) (s : State) : SameBlocks s (takeOutQuery p s).2 := by
  unfold takeOutQuery
  split <;> exact .refl s

theorem takeRouteSet_sameBlocks (p : List Byte) (s : State) : SameBlocks s (takeRouteSet p s).2 := by
  unfold takeRouteSet
  split
  · exact .refl s
  · split <;> exact ⟨rfl, rfl, rfl, rfl, rfl, rfl, rfl⟩

theorem takePinConfig_sameBlocks (p : List Byte) (s : State) : SameBlocks s (takePinConfig p s).2 := by
  unfold takePinConfig
  split
  · exact .refl s
  · split <;> exact ⟨rfl, rfl, rfl, rfl, rfl, rfl, rfl⟩

theorem takeRptAck_sameBlocks (p : List Byte) (s : State) : SameBlocks s (takeRptAck p s).2 := by
  unfold takeRptAck
  split
  · exact .refl s
  · split <;> exact ⟨rfl, rfl, rfl, rfl, rfl, rfl, rfl⟩

theorem takeRptResend_sameBlocks (p : List Byte) (s : State) : SameBlocks s (takeRptResend p s).2 := by
  unfold takeRptResend
  split <;> exact ⟨rfl, rfl, rfl, rfl, rfl, rfl, rfl⟩

theorem GivesBack.of_sameBlocks {s t : State} (h : SameBlocks s t) : GivesBack s t := .of_eq h.chans h.free

theorem takeFaultConfig_givesBack (p : List Byte) (s : State) : GivesBack s (takeFaultConfig p s).2 := by
  unfold takeFaultConfig
  split
  · exact .refl s
  · split
    · split
      · split
        · exact .refl s
        · exact accept_givesBack _ _ (.modFault _ _ s)
      · exact .refl s
    · exact .refl s

/-! ## Laws 1 and 2 (R23, R25) -/

theorem State.quotas_congr {s t : State} (h : ∀ c : Fin 16, t.chans[c].quota = s.chans[c].quota) :
    ((List.finRange 16).map fun c => t.chans[c].quota).sum = ((List.finRange 16).map fun c => s.chans[c].quota).sum :=
  congrArg List.sum (List.map_congr_left fun c _ => h c)

theorem State.PoolInv.givesBack {s t : State} (h : s.PoolInv) (g : GivesBack s t) : t.PoolInv := by
  obtain ⟨hrecords, hholds, hquotas⟩ := h
  refine ⟨g.records.trans hrecords, fun c => ?_, ?_⟩
  · exact (g.holds c).trans ((hholds c).trans (g.quota c).ge)
  · exact (State.quotas_congr g.quota).trans_le hquotas

/-- What a channel may still take is on the free list, since no channel holds more than its quota (R25). -/
theorem State.PoolInv.take {s : State} (h : s.PoolInv) {c : Fin 16} {f : Channel → Channel} {n : Nat}
    (hn : (f s.chans[c]).holds = s.chans[c].holds + n) (hq : (f s.chans[c]).quota = s.chans[c].quota)
    (hfits : s.chans[c].holds + n ≤ s.chans[c].quota) :
    State.PoolInv { s.modChan c f with free := s.free - n } := by
  have hquota (j : Fin 16) : (s.modChan c f).chans[j].quota = s.chans[j].quota := by
    rw [State.modChan_get]
    split
    · next hj => subst hj; exact hq
    · rfl
  have hwithin (j : Fin 16) : (s.modChan c f).chans[j].holds ≤ s.chans[j].quota := by
    rw [State.modChan_get]
    split
    · next hj => subst hj; exact hn.le.trans hfits
    · obtain ⟨-, hholds, -⟩ := h
      exact hholds j
  obtain ⟨hrecords, -, hquotas⟩ := h
  have hheld : (s.modChan c f).recordsHeld = s.recordsHeld + n := by
    have hone := State.recordsHeld_of_one (s := s) (t := s.modChan c f) (c := c)
      fun j hj => by rw [State.modChan_get, if_neg hj]
    rw [State.modChan_get, if_pos rfl] at hone
    omega
  have hmax : (s.modChan c f).recordsHeld ≤ Config.poolSize :=
    (List.sum_le_sum fun j _ => hwithin j).trans hquotas
  refine ⟨?_, fun j => (hwithin j).trans (hquota j).ge, ?_⟩
  · show s.free - n + (s.modChan c f).recordsHeld = _
    omega
  · exact (State.quotas_congr (t := s.modChan c f) hquota).trans_le hquotas

/-- New quotas that cover what the channels hold (R26). -/
theorem State.PoolInv.setQuotas {s : State} (h : s.PoolInv) {q : Vector Nat 16}
    (hcover : ∀ c : Fin 16, s.chans[c].holds ≤ q[c]) (hsum : ¬Config.poolSize < quotaSum q) :
    State.PoolInv (s.mapChans fun c ch => { ch with quota := q[c] }) := by
  have hget (c : Fin 16) : (s.mapChans fun c ch => { ch with quota := q[c] }).chans[c] =
      { s.chans[c] with quota := q[c] } := State.mapChans_get c _ s
  have hholds (c : Fin 16) : (s.mapChans fun c ch => { ch with quota := q[c] }).chans[c].holds = s.chans[c].holds := by
    rw [hget]
    rfl
  have hheld : (s.mapChans fun c ch => { ch with quota := q[c] }).recordsHeld = s.recordsHeld :=
    congrArg List.sum (List.map_congr_left fun c _ => hholds c)
  have hquota (c : Fin 16) : (s.mapChans fun c ch => { ch with quota := q[c] }).chans[c].quota = q[c] :=
    congrArg Channel.quota (hget c)
  have hquotas := congrArg List.sum (List.map_congr_left (l := List.finRange 16) fun c _ => hquota c)
  obtain ⟨hrecords, -, -⟩ := h
  refine ⟨?_, fun c => ?_, hquotas.trans_le (Nat.not_lt.mp hsum)⟩
  · rw [hheld, State.mapChans_free]
    exact hrecords
  · rw [hholds, hquota]
    exact hcover c

/-! ## The three requests to the pool (R26 to R30) -/

theorem accept_poolInv {s : State} (st : Status) (payload : List Byte) (h : s.PoolInv) :
    (accept st payload s).2.PoolInv := h

theorem checked_poolInv {tests : List (Bool × Status)} {s : State} {e : Reply × State} (h : s.PoolInv)
    (he : (∀ x ∈ tests, x.1 = false) → e.2.PoolInv) : (checked tests s e).2.PoolInv := by
  unfold checked
  split
  · exact h
  · next hnone => exact he ((firstFailure_eq_none_iff tests).mp hnone)

theorem takeChQuota_poolInv {s : State} (h : s.PoolInv) (p : List Byte) : (takeChQuota p s).2.PoolInv := by
  unfold takeChQuota
  split
  · exact h
  · dsimp only
    refine checked_poolInv h fun hpass => ?_
    simp only [List.forall_mem_cons] at hpass
    obtain ⟨hargs, hcover, -⟩ := hpass
    obtain ⟨-, hsum⟩ := Bool.or_eq_false_iff.mp hargs
    refine accept_poolInv _ _ (h.setQuotas (fun c => ?_) (of_decide_eq_false hsum))
    simpa using List.any_eq_false.mp hcover c (List.mem_finRange c)

theorem takeSegAppend_poolInv {s : State} (h : s.PoolInv) (p : List Byte) : (takeSegAppend p s).2.PoolInv := by
  unfold takeSegAppend
  split
  · exact h
  · split
    · next c segs _ _ =>
      refine checked_poolInv h fun hpass => ?_
      simp only [List.forall_mem_cons] at hpass
      obtain ⟨-, hfits, -⟩ := hpass
      refine accept_poolInv _ _ (h.take ?_ rfl (Nat.not_lt.mp (of_decide_eq_false hfits)))
      simp only [Channel.holds, List.length_append]
      omega
    · exact h

/-- What the earlier list held is free before the new one is taken (R30). -/
theorem State.supersedeReplacement_get (c : Fin 16) (s : State) :
    (s.supersedeReplacement c).chans[c] = { s.chans[c] with replacement := none } := by
  unfold State.supersedeReplacement State.freeReplacement
  split
  · next hr => rw [← hr]
  · next r hr =>
    rw [State.offerIf_chans]
    dsimp only
    exact (State.modChan_get c c _ s).trans (if_pos rfl)

theorem takeSegReplace_poolInv {s : State} (h : s.PoolInv) (seq : Byte) (p : List Byte) :
    (takeSegReplace seq p s).2.PoolInv := by
  unfold takeSegReplace
  split
  · exact h
  · split
    · next c notify segs _ _ _ =>
      refine checked_poolInv h fun hpass => ?_
      simp only [List.forall_mem_cons] at hpass
      obtain ⟨-, -, hfits, -⟩ := hpass
      have hget := s.supersedeReplacement_get c
      have hleft : (s.supersedeReplacement c).chans[c].holds = s.chans[c].queue.length := by
        rw [hget]
        rfl
      refine accept_poolInv _ _ ((h.givesBack (supersedeReplacement_givesBack c s)).take ?_ rfl ?_)
      · rw [hleft, hget]
        rfl
      · rw [hleft, hget]
        exact Nat.not_lt.mp (of_decide_eq_false hfits)
    · exact h

theorem perform_poolInv {s : State} (h : s.PoolInv) (f : Frame) : (perform f s).2.PoolInv := by
  unfold perform
  split
  · exact h
  · next kind _ =>
    cases kind with
    | chQuota => exact takeChQuota_poolInv h _
    | segAppend => exact takeSegAppend_poolInv h _
    | segReplace => exact takeSegReplace_poolInv h _ _
    | getInfo => exact h.givesBack (.of_sameBlocks (takeGetInfo_sameBlocks _ s))
    | getStatus => exact h.givesBack (.of_sameBlocks (takeGetStatus_sameBlocks _ s))
    | setLink => exact h.givesBack (.of_sameBlocks (takeSetLink_sameBlocks _ s))
    | resetDevice => exact h.givesBack (.of_sameBlocks (takeResetDevice_sameBlocks _ s))
    | tbConfig => exact h.givesBack (takeTbConfig_givesBack _ s)
    | tbStart => exact h.givesBack (takeTbStart_givesBack _ s)
    | tbStop => exact h.givesBack (takeTbStop_givesBack _ s)
    | tbPeriod => exact h.givesBack (takeTbPeriod_givesBack _ _ s)
    | tbQuery => exact h.givesBack (.of_sameBlocks (takeTbQuery_sameBlocks _ s))
    | chConfig => exact h.givesBack (takeChConfig_givesBack _ s)
    | chLevel => exact h.givesBack (takeChLevel_givesBack _ _ s)
    | chStart => exact h.givesBack (takeChStart_givesBack _ s)
    | chPause => exact h.givesBack (takeChPause_givesBack _ s)
    | chResume => exact h.givesBack (takeChResume_givesBack _ s)
    | chFlush => exact h.givesBack (takeChFlush_givesBack _ s)
    | chQuery => exact h.givesBack (.of_sameBlocks (takeChQuery_sameBlocks _ s))
    | rpDefine => exact h.givesBack (takeRpDefine_givesBack _ s)
    | rpQuery => exact h.givesBack (.of_sameBlocks (takeRpQuery_sameBlocks _ s))
    | pairConfig => exact h.givesBack (takePairConfig_givesBack _ s)
    | routeSet => exact h.givesBack (.of_sameBlocks (takeRouteSet_sameBlocks _ s))
    | pinConfig => exact h.givesBack (.of_sameBlocks (takePinConfig_sameBlocks _ s))
    | outQuery => exact h.givesBack (.of_sameBlocks (takeOutQuery_sameBlocks _ s))
    | faultConfig => exact h.givesBack (takeFaultConfig_givesBack _ s)
    | faultClear => exact h.givesBack (takeFaultClear_givesBack _ s)
    | faultQuery => exact h.givesBack (.of_sameBlocks (takeFaultQuery_sameBlocks _ s))
    | smConfig => exact h.givesBack (takeSmConfig_givesBack _ s)
    | smQuery => exact h.givesBack (.of_sameBlocks (takeSmQuery_sameBlocks _ s))
    | rptAck => exact h.givesBack (.of_sameBlocks (takeRptAck_sameBlocks _ s))
    | rptResend => exact h.givesBack (.of_sameBlocks (takeRptResend_sameBlocks _ s))

/-! ## Every step -/

theorem State.poolInv_reset : State.reset.PoolInv := by
  have hget (c : Fin 16) : State.reset.chans[c] = .reset := Vector.getElem_replicate _
  simp only [State.PoolInv, State.recordsHeld, hget]
  decide

/-- The pool's laws are a matter of the channels and the free list, and only requests take records. -/
theorem poolInv_blockInvariant : BlockInvariant State.PoolInv where
  congr h hst := h.givesBack (.of_sameBlocks hst)
  reset _ _ := State.poolInv_reset.givesBack (.of_eq rfl rfl)
  perform f _ h := perform_poolInv h f
  clock _ h := h.givesBack (.of_eq rfl rfl)
  tick b s _ h := h.givesBack (tickTimebase_givesBack b s)
  riseA k s _ h := h.givesBack (.modPair k _ s)
  riseB k s _ h := h.givesBack (.modPair k _ s)
  sample lines s h := h.givesBack ((GivesBack.mapUnits _ s).trans (sampleFaults_givesBack lines.flt _))
  advance _ h := h.givesBack (.of_eq rfl rfl)
  gather p s _ h := h.givesBack (expireGathering_givesBack p s)
  window u s _ h := h.givesBack (expireWindow_givesBack u s)
  silenceOn s h := h.givesBack (activateFault_givesBack silence s)
  silenceOff s h := h.givesBack (.modFault silence _ s)

/-- Settles O50: records are taken by two requests within the quota and given back by everything else. -/
theorem stepKeepsThePool : Obligations.StepKeepsThePool :=
  fun _ _ h ht => poolInv_blockInvariant.step h ht

end Sys2Proof.Machine

namespace Sys2Proof.Machine

/-! # O14, O15 and O16: the requests to the pool -/

theorem perform_chQuota (seq : Byte) (p : List Byte) (s : State) :
    perform (requestFrame seq RequestKind.chQuota.code p) s = takeChQuota p s := rfl

theorem perform_segAppend (seq : Byte) (p : List Byte) (s : State) :
    perform (requestFrame seq RequestKind.segAppend.code p) s = takeSegAppend p s := rfl

theorem perform_segReplace (seq : Byte) (p : List Byte) (s : State) :
    perform (requestFrame seq RequestKind.segReplace.code p) s = takeSegReplace seq p s := rfl

/-- The first test of a list decides, or leaves it to the rest (R138). -/
theorem checked_cons (fails : Bool) (st : Status) (rest : List (Bool × Status)) (s : State) (e : Reply × State) :
    checked ((fails, st) :: rest) s e = if fails = true then refuse st s else checked rest s e := by
  cases fails <;> rfl

/-! ## CH_QUOTA (R26) -/

/-- Numbers of two bytes each, one after another, are read back at their places (R158). -/
theorem u16_flatMap_le16 {α : Type} (f : α → Nat) (xs : List α) (i : Nat) (hi : i < xs.length)
    (hf : f xs[i] < 65536) : u16 (xs.flatMap fun x => le16 (f x)) (2 * i) = f xs[i] := by
  induction xs generalizing i with
  | nil => exact absurd hi (Nat.not_lt_zero i)
  | cons x xs ih =>
    cases i with
    | zero => exact toNat_ofNat_bytes hf
    | succ i => exact ih i (Nat.lt_of_succ_lt_succ hi) hf

theorem quotasOf_flatMap_le16 {q : Vector Nat 16} (h : ∀ x : Fin 16, q[x] < 65536) :
    quotasOf ((List.finRange 16).flatMap fun x => le16 q[x]) = q := by
  refine Vector.ext fun i hi => ?_
  have hread := u16_flatMap_le16 (fun x : Fin 16 => q[x]) (List.finRange 16) i (by simpa using hi) (h _)
  simpa [quotasOf] using hread

/-- The first test of CH_QUOTA fails unless every quota, and their sum, fits the pool (R26). -/
theorem quotas_misfit_iff (q : Vector Nat 16) :
    ((List.finRange 16).any (fun c => decide (512 < q[c])) || decide (512 < quotaSum q)) = true ↔
      ¬((∀ x : Fin 16, q[x] ≤ 512) ∧ ((List.finRange 16).map fun x => q[x]).sum ≤ 512) := by
  rw [Bool.or_eq_true, List.any_eq_true, not_and_or, not_forall, Nat.not_le, decide_eq_true_eq]
  simp only [List.mem_finRange, true_and, decide_eq_true_eq, Nat.not_le, quotaSum]

theorem takeChQuota_quotas {q : Vector Nat 16} (h : ∀ x : Fin 16, q[x] < 65536) (s : State) :
    takeChQuota ((List.finRange 16).flatMap fun x => le16 q[x]) s =
      checked
        [((List.finRange 16).any (fun c => decide (512 < q[c])) || decide (512 < quotaSum q), .badArg),
          ((List.finRange 16).any (fun c => decide (q[c] < s.chans[c].holds)), .quota)]
        s (accept .ok [] (s.mapChans fun c ch => { ch with quota := q[c] })) := by
  have hlen : ((List.finRange 16).flatMap fun x => le16 q[x]).length = 32 := by simp [List.length_flatMap, le16]
  rw [takeChQuota, if_neg (not_not.mpr hlen), quotasOf_flatMap_le16 h]

/-- Settles O14: the payload spells the sixteen quotas, and the two tests are those of R26. -/
theorem chQuotaEffect : Obligations.ChQuotaEffect := by
  intro s seq q hq c fits hready
  have htake := takeChQuota_quotas hq s.heard
  rw [State.heard_chans] at htake
  have hcovers : (List.finRange 16).any (fun c => decide (q[c] < s.chans[c].holds)) = true ↔
      ∃ x : Fin 16, q[x] < s.chans[x].holds := by simp [-Fin.getElem_fin]
  refine ⟨fun hbad => refused_of_perform (k := .chQuota) hready ?_,
    fun hfits hshort => refused_of_perform (k := .chQuota) hready ?_,
    fun hfits hcover => accepted_of_perform (k := .chQuota) hready ?_⟩
  · rw [perform_chQuota, htake, checked_cons, if_pos ((quotas_misfit_iff q).mpr hbad)]
  · rw [perform_chQuota, htake, checked_cons, if_neg fun h => (quotas_misfit_iff q).mp h hfits, checked_cons,
      if_pos (hcovers.mpr hshort)]
  · rw [perform_chQuota, htake, checked_cons, if_neg fun h => (quotas_misfit_iff q).mp h hfits, checked_cons,
      if_neg fun h => ?_, checked_nil]
    · rfl
    · obtain ⟨x, hx⟩ := hcovers.mp h
      exact absurd hx (Nat.not_lt.mpr (hcover x))

/-! ## Segments and their bytes (R21, Table 60) -/

theorem le8_toNat (b : Byte) : le8 b.toNat = [b] := by simp [le8]

theorem le16_toNat (b0 b1 : Byte) : le16 (b0.toNat + 256 * b1.toNat) = [b0, b1] := by
  have h0 := b0.isLt
  have h1 : (b0.toNat + 256 * b1.toNat) / 256 = b1.toNat := by omega
  have h2 : BitVec.ofNat 8 (b0.toNat + 256 * b1.toNat) = b0 :=
    BitVec.eq_of_toNat_eq (by rw [BitVec.toNat_ofNat]; omega)
  simp [le16, h1, h2]

theorem element?_some {n v : Nat} {i : Fin n} (h : element? n v = some i) : i.val = v := by
  unfold element? at h
  split at h
  · cases h
    rfl
  · cases h

/-- A segment read from the four fields of an encoding spells these fields. -/
theorem segment?_bytes {kind level periods last : Nat} {seg : Segment}
    (h : segment? kind level periods last = some seg) :
    seg.bytes = le8 kind ++ le16 level ++ le16 periods ++ le8 last := by
  unfold segment? at h
  split at h
  · obtain ⟨⟨_, rfl, rfl⟩, hseg⟩ := Option.ite_none_right_eq_some.mp h
    cases hseg
    rfl
  · obtain ⟨⟨_, _, rfl⟩, hseg⟩ := Option.ite_none_right_eq_some.mp h
    cases hseg
    rfl
  · obtain ⟨⟨rfl, _, rfl⟩, hseg⟩ := Option.ite_none_right_eq_some.mp h
    cases hseg
    rfl
  · obtain ⟨⟨rfl, rfl⟩, hseg⟩ := Option.ite_none_right_eq_some.mp h
    obtain ⟨p, hp, rfl⟩ := Option.map_eq_some_iff.mp hseg
    rw [← element?_some hp]
    rfl
  · obtain ⟨⟨rfl, rfl⟩, hseg⟩ := Option.ite_none_right_eq_some.mp h
    cases hseg
    rfl
  · cases h

/-- What is read as segments is their encodings and nothing else. -/
theorem segments?_bytes (bytes : List Byte) : ∀ segs, segments? bytes = some segs →
    bytes = segs.flatMap Segment.bytes := by
  fun_induction segments? bytes with
  | case1 =>
    rintro segs h
    cases h
    rfl
  | case2 k l0 l1 p0 p1 x rest first others hothers hfirst ih =>
    rintro segs h
    cases h
    have hbytes := segment?_bytes hfirst
    rw [le8_toNat, le16_toNat, le16_toNat, le8_toNat] at hbytes
    rw [List.flatMap_cons, hbytes, ← ih others hothers]
    rfl
  | case3 => rintro segs h; cases h
  | case4 => rintro segs h; cases h

/-- An encoding spelt by its four fields, in front of others. -/
theorem segments?_fields {kind level periods last : Nat} {seg : Segment} (hk : kind < 256) (hl : level < 65536)
    (hp : periods < 65536) (hx : last < 256) (hseg : segment? kind level periods last = some seg) (rest : List Byte) :
    segments? (le8 kind ++ le16 level ++ le16 periods ++ le8 last ++ rest) = (segments? rest).map (seg :: ·) := by
  simp only [le8, le16, List.cons_append, List.nil_append, segments?, toNat_ofNat_byte hk, toNat_ofNat_bytes hl,
    toNat_ofNat_bytes hp, toNat_ofNat_byte hx, hseg]
  cases segments? rest <;> rfl

theorem segments?_bytes_append {seg : Segment} (h : seg.valid = true) (rest : List Byte) :
    segments? (seg.bytes ++ rest) = (segments? rest).map (seg :: ·) := by
  cases seg with
  | set level =>
    have hl : level ≤ 4096 := by simpa [Segment.valid] using h
    exact segments?_fields (kind := 1) (by decide) (by omega) (by decide) (by decide) (if_pos ⟨hl, rfl, rfl⟩) rest
  | ramp target periods =>
    obtain ⟨⟨ht, hlo⟩, hhi⟩ : (target ≤ 4096 ∧ 1 ≤ periods) ∧ periods ≤ 65535 := by simpa [Segment.valid] using h
    exact segments?_fields (kind := 2) (by decide) (by omega) (by omega) (by decide) (if_pos ⟨ht, hlo, rfl⟩) rest
  | hold periods =>
    obtain ⟨hlo, hhi⟩ : 1 ≤ periods ∧ periods ≤ 65535 := by simpa [Segment.valid] using h
    exact segments?_fields (kind := 3) (by decide) (by decide) (by omega) (by decide) (if_pos ⟨rfl, hlo, rfl⟩) rest
  | sync point =>
    have hseg : segment? 4 0 0 point.val = some (.sync point) := by simp [segment?, element?_val]
    exact segments?_fields (by decide) (by decide) (by decide) (by omega) hseg rest
  | note tag =>
    have hseg : segment? 5 0 0 tag.toNat = some (.note tag) := by simp [segment?]
    have hread := segments?_fields (by decide) (by decide) (by decide) tag.isLt hseg rest
    rwa [le8_toNat] at hread

/-- Segments valid in form are read back in the order carried (R21). -/
theorem segments?_flatMap_bytes {segs : List Segment} (h : ∀ g ∈ segs, g.valid = true) :
    segments? (segs.flatMap Segment.bytes) = some segs := by
  induction segs with
  | nil => rfl
  | cons g rest ih =>
    rw [List.flatMap_cons, segments?_bytes_append (h g List.mem_cons_self),
      ih fun x hx => h x (List.mem_cons_of_mem g hx)]
    rfl

/-- Bytes that are no segments valid in form are not read as any. -/
theorem segments?_none {g : List Byte}
    (h : ¬∃ segs : List Segment, (∀ x ∈ segs, x.valid = true) ∧ g = segs.flatMap Segment.bytes) :
    segments? g = none := by
  by_contra hsome
  obtain ⟨segs, hsegs⟩ := Option.ne_none_iff_exists'.mp hsome
  exact h ⟨segs, segments?_valid g segs hsegs, segments?_bytes g segs hsegs⟩

theorem Segment.bytes_length (seg : Segment) : seg.bytes.length = 6 := by cases seg <;> rfl

theorem segments_length (segs : List Segment) : (segs.flatMap Segment.bytes).length = 6 * segs.length := by
  induction segs with
  | nil => rfl
  | cons g rest ih =>
    rw [List.flatMap_cons, List.length_append, g.bytes_length, ih, List.length_cons]
    omega

/-- One to sixteen whole encodings after the fixed part (R159). -/
theorem segmentsLengthOk_of {fixed n : Nat} (hlo : 1 ≤ n) (hhi : n ≤ 16) :
    segmentsLengthOk fixed (fixed + 6 * n) = true := by
  simp only [segmentsLengthOk, Bool.and_eq_true, decide_eq_true_eq, beq_iff_eq]
  omega

theorem segmentsLengthOk_of_any {fixed length : Nat}
    (h : ((List.range 16).any fun i => fixed + length == fixed + 6 * (i + 1)) = true) :
    segmentsLengthOk fixed (fixed + length) = true := by
  obtain ⟨i, hi, heq⟩ := List.any_eq_true.mp h
  rw [eq_of_beq heq]
  exact segmentsLengthOk_of (by omega) (by have := List.mem_range.mp hi; omega)

/-! ## SEG_APPEND (R27, R28) -/

theorem State.namesForeignPoint_iff (s : State) (c : Fin 16) (segs : List Segment) :
    s.namesForeignPoint c segs = true ↔ ∃ p : Fin 8, Segment.sync p ∈ segs ∧ s.points[p].members.has c = false := by
  unfold State.namesForeignPoint
  rw [List.any_eq_true]
  constructor
  · rintro ⟨seg, hmem, hforeign⟩
    cases seg with
    | sync p => exact ⟨p, hmem, by simpa using hforeign⟩
    | _ => cases hforeign
  · rintro ⟨p, hmem, hforeign⟩
    exact ⟨.sync p, hmem, by simpa using hforeign⟩

theorem mark?_none {v : Nat} (h : 1 < v) : mark? v = none := by
  match v, h with
  | _ + 2, _ => rfl

theorem takeSegAppend_badArg {n : Byte} {g : List Byte} (hlen : segmentsLengthOk 1 (1 + g.length) = true)
    (h : 15 < n.toNat ∨ segments? g = none) (s : State) : takeSegAppend (n :: g) s = refuse .badArg s := by
  have hlen' : ¬segmentsLengthOk 1 (n :: g).length = false := by
    rw [List.length_cons, Nat.add_comm, hlen]
    decide
  rw [takeSegAppend, if_neg hlen']
  split
  · next c segs hc hsegs =>
    have hc : element? 16 n.toNat = some c := hc
    rcases h with h | h
    · exact absurd (hc.symm.trans (element?_none h)) (by simp)
    · exact absurd (hsegs.symm.trans h) (by simp)
  · rfl

theorem takeSegAppend_segments {x : Fin 16} {segs : List Segment} (hlo : 1 ≤ segs.length) (hhi : segs.length ≤ 16)
    (hvalid : ∀ g ∈ segs, g.valid = true) (s : State) :
    takeSegAppend (le8 x.val ++ segs.flatMap Segment.bytes) s =
      checked
        [(s.chans[x].locked, .locked),
          (decide (s.chans[x].quota < s.chans[x].holds + segs.length), .quota),
          (s.namesForeignPoint x segs, .notMember)]
        s (accept .ok [] (s.takeToQueue x segs)) := by
  have hlen : ¬segmentsLengthOk 1 (le8 x.val ++ segs.flatMap Segment.bytes).length = false := by
    rw [List.length_append, segments_length]
    exact Bool.not_eq_false _ ▸ segmentsLengthOk_of hlo hhi
  have hx : u8 (le8 x.val ++ segs.flatMap Segment.bytes) 0 = x.val := toNat_ofNat_byte (by omega)
  have hdrop : (le8 x.val ++ segs.flatMap Segment.bytes).drop 1 = segs.flatMap Segment.bytes := rfl
  rw [takeSegAppend, if_neg hlen, hx, element?_val, hdrop, segments?_flatMap_bytes hvalid]

/-- Settles O15: an encoding is read back exactly where it is that of a segment valid in form, and the tests are those
of R27. -/
theorem segAppendEffect : Obligations.SegAppendEffect := by
  refine ⟨fun s seq n g hlen hready hbad => refused_of_perform (k := .segAppend) hready ?_,
    fun s seq x segs hlo hhi hvalid => ?_⟩
  · exact takeSegAppend_badArg (segmentsLengthOk_of_any hlen) (hbad.imp_right segments?_none) s.heard
  · intro c tooMany foreign hready
    have htake := takeSegAppend_segments (x := x) hlo hhi hvalid s.heard
    have hforeign : s.heard.namesForeignPoint x segs = true ↔ foreign := s.heard.namesForeignPoint_iff x segs
    rw [State.heard_chans] at htake
    refine ⟨fun hlocked => refused_of_perform (k := .segAppend) hready ?_,
      fun hfree hmany => refused_of_perform (k := .segAppend) hready ?_,
      fun hfree hfits hnot => refused_of_perform (k := .segAppend) hready ?_,
      fun hfree hfits hown => accepted_of_perform (k := .segAppend) hready ?_⟩
    · rw [perform_segAppend, htake, checked_cons, if_pos hlocked]
    · rw [perform_segAppend, htake, hfree, checked_passes, checked_cons, if_pos (decide_eq_true hmany)]
    · rw [perform_segAppend, htake, hfree, checked_passes, decide_eq_false hfits, checked_passes, checked_cons,
        if_pos (hforeign.mpr hnot)]
    · rw [perform_segAppend, htake, hfree, checked_passes, decide_eq_false hfits, checked_passes, checked_cons,
        if_neg fun h => hown (hforeign.mp h), checked_nil]
      rfl

/-! ## SEG_REPLACE (R29, R30, R58) -/

theorem takeSegReplace_badArg {seq n mark : Byte} {g : List Byte} (hlen : segmentsLengthOk 2 (2 + g.length) = true)
    (h : 15 < n.toNat ∨ 1 < mark.toNat ∨ segments? g = none) (s : State) :
    takeSegReplace seq (n :: mark :: g) s = refuse .badArg s := by
  have hlen' : ¬segmentsLengthOk 2 (n :: mark :: g).length = false := by
    rw [List.length_cons, List.length_cons, Nat.add_assoc, Nat.add_comm, hlen]
    decide
  rw [takeSegReplace, if_neg hlen']
  split
  · next c notify segs hc hmark hsegs =>
    have hc : element? 16 n.toNat = some c := hc
    have hmark : mark? mark.toNat = some notify := hmark
    rcases h with h | h | h
    · exact absurd (hc.symm.trans (element?_none h)) (by simp)
    · exact absurd (hmark.symm.trans (mark?_none h)) (by simp)
    · exact absurd (hsegs.symm.trans h) (by simp)
  · rfl

theorem takeSegReplace_segments {seq : Byte} {x : Fin 16} {notify : Bool} {segs : List Segment}
    (hlo : 1 ≤ segs.length) (hhi : segs.length ≤ 16) (hvalid : ∀ g ∈ segs, g.valid = true) (s : State) :
    takeSegReplace seq (le8 x.val ++ flagByte notify ++ segs.flatMap Segment.bytes) s =
      checked
        [(s.chans[x].locked, .locked),
          (s.chans[x].state == .idle || s.chans[x].state == .armed, .state),
          (decide (s.chans[x].quota < s.chans[x].queue.length + segs.length), .quota),
          (s.namesForeignPoint x segs, .notMember)]
        s (accept .pending []
          ((s.supersedeReplacement x).takeToReplacement x segs (if notify then some seq else none))) := by
  have hlen : ¬segmentsLengthOk 2 (le8 x.val ++ flagByte notify ++ segs.flatMap Segment.bytes).length = false := by
    rw [List.length_append, segments_length]
    exact Bool.not_eq_false _ ▸ segmentsLengthOk_of hlo hhi
  have hx : u8 (le8 x.val ++ flagByte notify ++ segs.flatMap Segment.bytes) 0 = x.val :=
    toNat_ofNat_byte (by omega)
  have hmark : u8 (le8 x.val ++ flagByte notify ++ segs.flatMap Segment.bytes) 1 = notify.toNat :=
    toNat_ofNat_byte (by cases notify <;> decide)
  have hdrop : (le8 x.val ++ flagByte notify ++ segs.flatMap Segment.bytes).drop 2 = segs.flatMap Segment.bytes := rfl
  rw [takeSegReplace, if_neg hlen, hx, element?_val, hmark, mark?_toNat, hdrop, segments?_flatMap_bytes hvalid]

theorem State.supersedeReplacement_of_none {c : Fin 16} {s : State} (h : s.chans[c].replacement = none) :
    s.supersedeReplacement c = s := by
  simp only [State.supersedeReplacement, h]

/-- Freeing the earlier list and taking the new one is one change of the channel and of the free list, with the report
the earlier list may owe (R30). -/
theorem State.replace_of_some {c : Fin 16} {s : State} {old : Replacement} (h : s.chans[c].replacement = some old)
    (segs : List Segment) (notify : Option Byte) :
    (s.supersedeReplacement c).takeToReplacement c segs notify =
      State.offerIf old.notify (fun seq => .superseded seq (.segReplace c))
        { s with
          chans := s.chans.set c
            { s.chans[c] with replacement := some { segments := segs, notify := notify } }
          free := s.free + old.segments.length - segs.length } := by
  have hcomm (r : Byte → Report) (u : State) : (u.offerIf old.notify r).takeToReplacement c segs notify =
      (u.takeToReplacement c segs notify).offerIf old.notify r := by
    cases old.notify <;> rfl
  simp only [State.supersedeReplacement, State.freeReplacement, h, hcomm]
  simp [State.takeToReplacement, State.modChan]

/-- Settles O16: as for SEG_APPEND, with R58 before the quota; the earlier list, if there is one, is freed first. -/
theorem segReplaceEffect : Obligations.SegReplaceEffect := by
  refine ⟨fun s seq n mark g hlen hready hbad => refused_of_perform (k := .segReplace) hready ?_,
    fun s seq x notify segs hlo hhi hvalid => ?_⟩
  · exact takeSegReplace_badArg (segmentsLengthOk_of_any hlen) (hbad.imp_right (Or.imp_right segments?_none)) s.heard
  · intro c tooMany foreign early hready
    have htake := takeSegReplace_segments (seq := seq) (x := x) (notify := notify) hlo hhi hvalid s.heard
    have hforeign : s.heard.namesForeignPoint x segs = true ↔ foreign := s.heard.namesForeignPoint_iff x segs
    have hearly : (s.chans[x].state == .idle || s.chans[x].state == .armed) = true ↔ early := by
      rw [Bool.or_eq_true, beq_iff_eq, beq_iff_eq]
    rw [State.heard_chans] at htake
    refine ⟨fun hlocked => refused_of_perform (k := .segReplace) hready ?_,
      fun hfree hidle => refused_of_perform (k := .segReplace) hready ?_,
      fun hfree hgoing hmany => refused_of_perform (k := .segReplace) hready ?_,
      fun hfree hgoing hfits hnot => refused_of_perform (k := .segReplace) hready ?_,
      fun hfree hgoing hfits hown => accepted_of_perform (k := .segReplace) hready ?_⟩
    · rw [perform_segReplace, htake, checked_cons, if_pos hlocked]
    · rw [perform_segReplace, htake, hfree, checked_passes, checked_cons, if_pos (hearly.mpr hidle)]
    all_goals
      rw [perform_segReplace, htake, hfree, checked_passes, checked_cons, if_neg fun h => hgoing (hearly.mp h)]
    · rw [checked_cons, if_pos (decide_eq_true hmany)]
    · rw [decide_eq_false hfits, checked_passes, checked_cons, if_pos (hforeign.mpr hnot)]
    · rw [decide_eq_false hfits, checked_passes, checked_cons, if_neg fun h => hown (hforeign.mp h), checked_nil]
      refine congrArg (accept .pending []) ?_
      cases hr : s.chans[x].replacement with
      | none =>
        rw [State.supersedeReplacement_of_none (s := s.heard) hr]
        rfl
      | some old => exact State.replace_of_some (s := s.heard) hr segs _

end Sys2Proof.Machine

namespace Sys2Proof.Machine

/-! # What an accepted request does to the blocks

One inversion lemma for all requests, `perform_effect`: a request that is not refused leaves one of these states,
with what its checks have established. -/

/-- What a request can make of the blocks, each accepted one with its checks. -/
inductive RequestEffect (s : State) : State → Prop
  | sameBlocks {t : State} (h : SameBlocks s t) : RequestEffect s t
  | timebase (b : Fin 4) (f : Timebase → Timebase) {t : State}
      (hf : ∀ tb, (f tb).state = tb.state ∧ (f tb).counter = tb.counter ∧ (f tb).slot = tb.slot)
      (h : SameBlocks ((s.dropPendingPeriod b).modTb b f) t) : RequestEffect s t
  | tbStart (set : List (Fin 4)) (halted : ∀ b ∈ set, s.tbs[b].state = .halted) : RequestEffect s (s.startTbs set)
  | tbStop (set : List (Fin 4)) : RequestEffect s
      ((s.mapTbs fun b tb => if set.contains b then tb.stop else tb).haltPairs
        fun b => set.contains b && s.tbs[b].state == .running)
  | chQuota (q : Vector Nat 16) : RequestEffect s (s.mapChans fun c ch => { ch with quota := q[c] })
  | segAppend (c : Fin 16) (segs : List Segment) (unlocked : s.chans[c].locked = false) :
      RequestEffect s (s.takeToQueue c segs)
  | segReplace (c : Fin 16) (segs : List Segment) (notify : Option Byte) (unlocked : s.chans[c].locked = false) :
      RequestEffect s ((s.supersedeReplacement c).takeToReplacement c segs notify)
  | chConfig (c : Fin 16) (tb : Fin 4) (mode : Mode) (safe : Bool) (unlocked : s.chans[c].locked = false)
      (idle : s.chans[c].state = .idle) : RequestEffect s ((s.configChannel c tb mode safe).rebindPair c s)
  | chLevel (c : Fin 16) (p : PendingLevel) (unlocked : s.chans[c].locked = false) (idle : s.chans[c].state = .idle) :
      RequestEffect s ((s.modChan c fun ch => { ch with pendingLevel := some p }).offerIf s.chans[c].levelSeq
        fun old => .superseded old (.chLevel c))
  | chStart (set : ChSet) (unlocked : ∀ c, set.has c = true → s.chans[c].locked = false)
      (idle : ∀ c, set.has c = true → s.chans[c].state = .idle) :
      RequestEffect s (s.modSet set fun ch => { ch with state := .armed })
  | chPause (set : ChSet) (unlocked : ∀ c, set.has c = true → s.chans[c].locked = false) :
      RequestEffect s (s.modSet set fun ch => { ch with pendingControl := .pause })
  | chResume (set : ChSet) (unlocked : ∀ c, set.has c = true → s.chans[c].locked = false) :
      RequestEffect s (s.modSet set Channel.resume)
  | chFlush (set : ChSet) (unlocked : ∀ c, set.has c = true → s.chans[c].locked = false) :
      RequestEffect s (forEachInAnyOrder set.toList State.flushChannel s)
  | rpDefine (p : Fin 8) (members : ChSet) (timeout : Nat) (empty : s.points[p].arrived = 0) :
      RequestEffect s (s.modPoint p fun pt => { pt with members := members, timeout := timeout })
  | pairConfig (k : Fin 8) (enable : Bool) (d : Nat) (range : d ≤ 63)
      (free : enable = true → s.pairs[k].enabled = false → s.chans[oddOf k].lockable = true) :
      RequestEffect s (s.configPair k enable d)
  | faultConfig (f : Fin 4) (action : Action) (chans : ChSet) (input : Option FltInput) (polarity filter : Nat)
      (fits : fltInput? f polarity filter = some input) (unlatched : s.faults[f].latched = false) :
      RequestEffect s (s.modFault f fun src => { src with action := action, chans := chans, input := input })
  | faultClear (f : Fin 4) (inactive : s.faults[f].active = false) (latched : s.faults[f].latched = true) :
      RequestEffect s (s.clearFault f)
  | smConfig (u : Fin 4) (cfg : UnitConfig) :
      RequestEffect s (s.modUnit u fun unit => unit.configure cfg).settleSpeed

theorem offer_sameBlocks (r : Report) (s : State) : SameBlocks s (s.offer r) := ⟨rfl, rfl, rfl, rfl, rfl, rfl, rfl⟩

namespace RequestEffect

theorem refl (s : State) : RequestEffect s s := .sameBlocks (.refl s)

theorem dropAndSet {s : State} {b : Fin 4} {f : Timebase → Timebase}
    (hf : ∀ tb, (f tb).state = tb.state ∧ (f tb).counter = tb.counter ∧ (f tb).slot = tb.slot) :
    RequestEffect s ((s.dropPendingPeriod b).modTb b f) := .timebase b f hf (.refl _)

theorem accept {s t : State} (st : Status) (payload : List Byte) (h : RequestEffect s t) :
    RequestEffect s (accept st payload t).2 := h

theorem checked {tests : List (Bool × Status)} {s : State} {e : Reply × State}
    (h : (∀ x ∈ tests, x.1 = false) → RequestEffect s e.2) : RequestEffect s (checked tests s e).2 := by
  unfold Machine.checked
  split
  · exact refl s
  · next hnone => exact h ((firstFailure_eq_none_iff tests).mp hnone)

theorem forSet {p : List Byte} {s : State} {bad : Channel → Bool} {effect : ChSet → Reply × State}
    (h : ∀ set : ChSet, (∀ c, set.has c = true → s.chans[c].locked = false) →
      (∀ c, set.has c = true → bad s.chans[c] = false) → RequestEffect s (effect set).2) :
    RequestEffect s (forSet p s bad effect).2 := by
  unfold Machine.forSet
  split
  · exact refl s
  · refine checked fun hpass => ?_
    simp only [List.forall_mem_cons] at hpass
    obtain ⟨-, hlocked, hbad, -⟩ := hpass
    exact h _ (fun _ => State.anyOf_eq_false hlocked) (fun _ => State.anyOf_eq_false hbad)

end RequestEffect

/-! ## By request -/

theorem takeTbConfig_effect (p : List Byte) (s : State) : RequestEffect s (takeTbConfig p s).2 := by
  unfold takeTbConfig
  split
  · exact .refl s
  · split
    · split
      · exact .refl s
      · exact .accept _ _ (.dropAndSet fun _ => ⟨rfl, rfl, rfl⟩)
    · exact .refl s

theorem takeTbStart_effect (p : List Byte) (s : State) : RequestEffect s (takeTbStart p s).2 := by
  unfold takeTbStart
  split
  · exact .refl s
  · split
    · exact .refl s
    · next set _ =>
      split
      · exact .refl s
      · next hrun =>
        refine .tbStart set fun b hb => ?_
        have hnot : s.tbs[b].state ≠ .running := fun h => hrun (List.any_eq_true.mpr ⟨b, hb, beq_iff_eq.mpr h⟩)
        cases hst : s.tbs[b].state with
        | halted => rfl
        | running => exact absurd hst hnot

theorem takeTbStop_effect (p : List Byte) (s : State) : RequestEffect s (takeTbStop p s).2 := by
  unfold takeTbStop
  split
  · exact .refl s
  · split
    · exact .refl s
    · exact .tbStop _

theorem takeTbPeriod_effect (seq : Byte) (p : List Byte) (s : State) :
    RequestEffect s (takeTbPeriod seq p s).2 := by
  unfold takeTbPeriod
  split
  · exact .refl s
  · split
    · split
      · exact .accept _ _ (.dropAndSet fun _ => ⟨rfl, rfl, rfl⟩)
      · exact .accept _ _ (.dropAndSet fun _ => ⟨rfl, rfl, rfl⟩)
      · split
        · exact .accept _ _ (.dropAndSet fun _ => ⟨rfl, rfl, rfl⟩)
        · refine .timebase _ _ ?_ (offer_sameBlocks _ _)
          exact fun _ => ⟨rfl, rfl, rfl⟩
    · exact .refl s

theorem takeChQuota_effect (p : List Byte) (s : State) : RequestEffect s (takeChQuota p s).2 := by
  unfold takeChQuota
  split
  · exact .refl s
  · exact .checked fun _ => .chQuota _

theorem takeSegAppend_effect (p : List Byte) (s : State) : RequestEffect s (takeSegAppend p s).2 := by
  unfold takeSegAppend
  split
  · exact .refl s
  · split
    · exact .checked fun hpass => .segAppend _ _ (hpass _ List.mem_cons_self)
    · exact .refl s

theorem takeSegReplace_effect (seq : Byte) (p : List Byte) (s : State) :
    RequestEffect s (takeSegReplace seq p s).2 := by
  unfold takeSegReplace
  split
  · exact .refl s
  · split
    · exact .checked fun hpass => .segReplace _ _ _ (hpass _ List.mem_cons_self)
    · exact .refl s

/-- The checks of CH_CONFIG and CH_LEVEL: the channel is not locked, and IDLE (R38, R53). -/
theorem idle_of_checks {ch : Channel}
    (h : ∀ x ∈ [(ch.locked, Status.locked), (ch.state != .idle, .state)], x.1 = false) :
    ch.locked = false ∧ ch.state = .idle := by
  simp only [List.forall_mem_cons, bne_eq_false_iff_eq] at h
  exact ⟨h.1, h.2.1⟩

theorem takeChConfig_effect (p : List Byte) (s : State) : RequestEffect s (takeChConfig p s).2 := by
  unfold takeChConfig
  split
  · exact .refl s
  · split
    · refine .checked fun hpass => ?_
      obtain ⟨hlocked, hidle⟩ := idle_of_checks hpass
      exact .chConfig _ _ _ _ hlocked hidle
    · exact .refl s

theorem takeChLevel_effect (seq : Byte) (p : List Byte) (s : State) : RequestEffect s (takeChLevel seq p s).2 := by
  unfold takeChLevel
  split
  · exact .refl s
  · split
    · refine .checked fun hpass => ?_
      obtain ⟨hlocked, hidle⟩ := idle_of_checks hpass
      exact .chLevel _ _ hlocked hidle
    · exact .refl s

theorem takeChStart_effect (p : List Byte) (s : State) : RequestEffect s (takeChStart p s).2 :=
  .forSet fun set hlocked hfit => .chStart set hlocked fun c hc =>
    (bne_eq_false_iff_eq.mp (Bool.or_eq_false_iff.mp (hfit c hc)).1)

theorem takeChPause_effect (p : List Byte) (s : State) : RequestEffect s (takeChPause p s).2 :=
  .forSet fun set hlocked _ => .chPause set hlocked

theorem takeChResume_effect (p : List Byte) (s : State) : RequestEffect s (takeChResume p s).2 :=
  .forSet fun set hlocked _ => .chResume set hlocked

theorem takeChFlush_effect (p : List Byte) (s : State) : RequestEffect s (takeChFlush p s).2 :=
  .forSet fun set hlocked _ => .chFlush set hlocked

theorem takeRpDefine_effect (p : List Byte) (s : State) : RequestEffect s (takeRpDefine p s).2 := by
  unfold takeRpDefine
  split
  · exact .refl s
  · split
    · split
      · exact .refl s
      · next hempty => exact .rpDefine _ _ _ (not_not.mp hempty)
    · exact .refl s

theorem takePairConfig_effect (p : List Byte) (s : State) : RequestEffect s (takePairConfig p s).2 := by
  unfold takePairConfig
  split
  · exact .refl s
  · split
    · next k enable d _ _ hd =>
      split
      · exact .refl s
      · next hfree =>
        refine .pairConfig k enable d (within?_some hd).2 fun he hdis => ?_
        simp only [he, hdis, Bool.not_false, Bool.true_and, Bool.not_eq_true', Bool.not_eq_false] at hfree
        exact hfree
    · exact .refl s

theorem takeFaultConfig_effect (p : List Byte) (s : State) : RequestEffect s (takeFaultConfig p s).2 := by
  unfold takeFaultConfig
  split
  · exact .refl s
  · split
    · split
      · next hfits =>
        split
        · exact .refl s
        · next hlatched => exact .faultConfig _ _ _ _ _ _ hfits (Bool.eq_false_iff.mpr hlatched)
      · exact .refl s
    · exact .refl s

theorem takeFaultClear_effect (p : List Byte) (s : State) : RequestEffect s (takeFaultClear p s).2 := by
  unfold takeFaultClear
  split
  · exact .refl s
  · split
    · exact .refl s
    · split
      · exact .refl s
      · next hactive =>
        split
        · next hlatched => exact .faultClear _ (Bool.eq_false_iff.mpr hactive) hlatched
        · exact .refl s

theorem takeSmConfig_effect (p : List Byte) (s : State) : RequestEffect s (takeSmConfig p s).2 := by
  unfold takeSmConfig
  split
  · exact .refl s
  · split
    · exact .smConfig _ _
    · exact .refl s

/-- A request of any kind does one of these (R138, R157). -/
theorem perform_effect (f : Frame) (s : State) : RequestEffect s (perform f s).2 := by
  unfold perform
  split
  · exact .refl s
  · next kind _ =>
    cases kind with
    | getInfo => exact .sameBlocks (takeGetInfo_sameBlocks _ s)
    | getStatus => exact .sameBlocks (takeGetStatus_sameBlocks _ s)
    | setLink => exact .sameBlocks (takeSetLink_sameBlocks _ s)
    | resetDevice => exact .sameBlocks (takeResetDevice_sameBlocks _ s)
    | tbConfig => exact takeTbConfig_effect _ s
    | tbStart => exact takeTbStart_effect _ s
    | tbStop => exact takeTbStop_effect _ s
    | tbPeriod => exact takeTbPeriod_effect _ _ s
    | tbQuery => exact .sameBlocks (takeTbQuery_sameBlocks _ s)
    | chQuota => exact takeChQuota_effect _ s
    | segAppend => exact takeSegAppend_effect _ s
    | segReplace => exact takeSegReplace_effect _ _ s
    | chConfig => exact takeChConfig_effect _ s
    | chLevel => exact takeChLevel_effect _ _ s
    | chStart => exact takeChStart_effect _ s
    | chPause => exact takeChPause_effect _ s
    | chResume => exact takeChResume_effect _ s
    | chFlush => exact takeChFlush_effect _ s
    | chQuery => exact .sameBlocks (takeChQuery_sameBlocks _ s)
    | rpDefine => exact takeRpDefine_effect _ s
    | rpQuery => exact .sameBlocks (takeRpQuery_sameBlocks _ s)
    | pairConfig => exact takePairConfig_effect _ s
    | routeSet => exact .sameBlocks (takeRouteSet_sameBlocks _ s)
    | pinConfig => exact .sameBlocks (takePinConfig_sameBlocks _ s)
    | outQuery => exact .sameBlocks (takeOutQuery_sameBlocks _ s)
    | faultConfig => exact takeFaultConfig_effect _ s
    | faultClear => exact takeFaultClear_effect _ s
    | faultQuery => exact .sameBlocks (takeFaultQuery_sameBlocks _ s)
    | smConfig => exact takeSmConfig_effect _ s
    | smQuery => exact .sameBlocks (takeSmQuery_sameBlocks _ s)
    | rptAck => exact .sameBlocks (takeRptAck_sameBlocks _ s)
    | rptResend => exact .sameBlocks (takeRptResend_sameBlocks _ s)

end Sys2Proof.Machine

namespace Sys2Proof.Machine

/-! # O52: who waits at a point

Three kinds of change matter to Law 3: an arrival, a release and a withdrawal. Every other operation leaves the points
as they are and lets each channel wait as before (`SameWaits`). -/

/-- A channel waits after a change exactly where it waited before. -/
structure Channel.WaitsAlike (ch new : Channel) : Prop where
  state : new.state = .waiting ↔ ch.state = .waiting
  head : ch.state = .waiting → new.queue.head? = ch.queue.head?

namespace Channel.WaitsAlike

variable {ch new last : Channel}

theorem refl (ch : Channel) : ch.WaitsAlike ch := ⟨.rfl, fun _ => rfl⟩

theorem trans (h : ch.WaitsAlike new) (g : new.WaitsAlike last) : ch.WaitsAlike last where
  state := g.state.trans h.state
  head hw := (g.head (h.state.mpr hw)).trans (h.head hw)

theorem of_eq (hs : new.state = ch.state) (hq : new.queue = ch.queue) : ch.WaitsAlike new where
  state := by rw [hs]
  head _ := by rw [hq]

theorem of_not_waiting (h : ch.state ≠ .waiting) (h' : new.state ≠ .waiting) : ch.WaitsAlike new where
  state := ⟨fun hw => absurd hw h', fun hw => absurd hw h⟩
  head hw := absurd hw h

theorem waitsAt (h : ch.WaitsAlike new) (p : Fin 8) : new.waitsAt p = ch.waitsAt p := by
  rw [Bool.eq_iff_iff, Channel.waitsAt_iff, Channel.waitsAt_iff, h.state]
  exact and_congr_right fun hw => by rw [h.head hw]

end Channel.WaitsAlike

theorem Channel.waitsAt_of_not_waiting {ch : Channel} (h : ch.state ≠ .waiting) (p : Fin 8) :
    ch.waitsAt p = false := by
  rw [Bool.eq_false_iff, ne_eq, Channel.waitsAt_iff]
  exact fun hw => h hw.1

theorem Channel.waitsAt_unique {ch : Channel} {p q : Fin 8} (hp : ch.waitsAt p = true) (hq : ch.waitsAt q = true) :
    p = q := by
  obtain ⟨-, hp⟩ := (Channel.waitsAt_iff ch p).mp hp
  obtain ⟨-, hq⟩ := (Channel.waitsAt_iff ch q).mp hq
  exact Segment.sync.inj (Option.some.inj (hp.symm.trans hq))

/-- A WAITING channel has a SYNC at its head. -/
def Channel.WaitsAtHead (ch : Channel) : Prop := ch.state = .waiting → ∃ p : Fin 8, ch.queue.head? = some (.sync p)

/-- Law 3 at one point, with its timer: `waits` says which channels wait there. -/
structure Point.Gathers (pt : Point) (waits : Fin 16 → Bool) : Prop where
  arrived : ∀ c, pt.arrived.has c = waits c
  member : ∀ c, pt.arrived.has c = true → pt.members.has c = true
  runs : pt.timer.isSome = (pt.arrived != 0 && pt.timeout != 0)
  elapsed : ∀ n ∈ pt.timer, n < pt.timeout

/-- The invariant of O52, channel by channel and point by point. -/
structure State.Gathers (s : State) : Prop where
  head : ∀ c : Fin 16, s.chans[c].WaitsAtHead
  point : ∀ p : Fin 8, s.points[p].Gathers fun c => s.chans[c].waitsAt p

theorem Point.Gathers.congr {pt : Point} {waits waits' : Fin 16 → Bool} (h : pt.Gathers waits)
    (hw : ∀ c, waits' c = waits c) : pt.Gathers waits' := funext hw ▸ h

theorem State.gathers_iff (s : State) : s.Gathers ↔ s.RendezvousInv := by
  constructor
  · rintro ⟨head, point⟩
    exact ⟨head, fun p => (point p).arrived, fun p => (point p).member, fun p => (point p).runs,
      fun p => (point p).elapsed⟩
  · rintro ⟨head, arrived, member, runs, elapsed⟩
    exact ⟨head, fun p => ⟨arrived p, member p, runs p, elapsed p⟩⟩

theorem Channel.WaitsAtHead.alike {ch new : Channel} (h : ch.WaitsAtHead) (g : ch.WaitsAlike new) :
    new.WaitsAtHead := fun hw => by
  have hw := g.state.mp hw
  rw [g.head hw]
  exact h hw

theorem Channel.waitsAtHead_of_not_waiting {ch : Channel} (h : ch.state ≠ .waiting) : ch.WaitsAtHead :=
  fun hw => absurd hw h

/-! ## Everything but arrivals, releases and withdrawals -/

/-- The points are the same, and every channel waits where it waited. -/
structure SameWaits (s t : State) : Prop where
  points : t.points = s.points
  chans : ∀ c : Fin 16, s.chans[c].WaitsAlike t.chans[c]

namespace SameWaits

variable {s t u : State}

theorem of_eq (hc : t.chans = s.chans) (hp : t.points = s.points) : SameWaits s t where
  points := hp
  chans c := by rw [hc]; exact .refl _

theorem refl (s : State) : SameWaits s s := of_eq rfl rfl

theorem trans (h : SameWaits s t) (g : SameWaits t u) : SameWaits s u where
  points := g.points.trans h.points
  chans c := (h.chans c).trans (g.chans c)

theorem of_sameBlocks (h : SameBlocks s t) : SameWaits s t := of_eq h.chans h.points

theorem modChan {c : Fin 16} {f : Channel → Channel} (h : s.chans[c].WaitsAlike (f s.chans[c])) :
    SameWaits s (s.modChan c f) where
  points := rfl
  chans j := by
    rw [State.modChan_get]
    split
    · next hj => subst hj; exact h
    · exact .refl _

theorem mapChans {f : Fin 16 → Channel → Channel} (h : ∀ c : Fin 16, s.chans[c].WaitsAlike (f c s.chans[c])) :
    SameWaits s (s.mapChans f) where
  points := State.mapChans_points f s
  chans c := by rw [State.mapChans_get]; exact h c

theorem modSet {set : ChSet} {f : Channel → Channel}
    (h : ∀ c : Fin 16, set.has c = true → s.chans[c].WaitsAlike (f s.chans[c])) : SameWaits s (s.modSet set f) :=
  mapChans fun c => by
    split
    · next hc => exact h c hc
    · exact .refl _

theorem offer (r : Report) (s : State) : SameWaits s (s.offer r) := of_eq rfl rfl

theorem offerIf (n : Option Byte) (r : Byte → Report) (s : State) : SameWaits s (s.offerIf n r) :=
  of_eq (by simp) (by simp)

theorem modTb (b : Fin 4) (f : Timebase → Timebase) (s : State) : SameWaits s (s.modTb b f) := of_eq rfl rfl

theorem modPair (k : Fin 8) (f : Pair → Pair) (s : State) : SameWaits s (s.modPair k f) := of_eq rfl rfl

theorem modFault (i : Fin 4) (f : FaultSource → FaultSource) (s : State) : SameWaits s (s.modFault i f) :=
  of_eq rfl rfl

theorem modUnit (u : Fin 4) (f : SpeedUnit → SpeedUnit) (s : State) : SameWaits s (s.modUnit u f) := of_eq rfl rfl

end SameWaits

namespace State.Gathers

variable {s t : State}

theorem sameWaits (h : s.Gathers) (g : SameWaits s t) : t.Gathers where
  head c := (h.head c).alike (g.chans c)
  point p := by
    rw [g.points]
    exact (h.point p).congr fun c => (g.chans c).waitsAt p

theorem waitsAt_eq (h : s.Gathers) (p : Fin 8) (c : Fin 16) : s.points[p].arrived.has c = s.chans[c].waitsAt p :=
  (h.point p).arrived c

end State.Gathers

/-! ## Withdrawal (R71) -/

theorem ChSet.ne_zero_of_drop {m : ChSet} {c : Fin 16} (h : m.drop c ≠ 0) : m ≠ 0 := by
  rintro rfl
  exact h (BitVec.zero_and)

theorem ChSet.add_ne_zero (m : ChSet) (c : Fin 16) : m.add c ≠ 0 := fun hzero => by
  have hc : ChSet.has 0 c = (m.has c || decide (c = c)) := hzero ▸ ChSet.has_add m c c
  rw [decide_eq_true rfl, Bool.or_true] at hc
  exact absurd ((ChSet.has_zero c).symm.trans hc) (by decide)

/-- A withdrawal reaches the point at which the channel waits, and no other. -/
theorem State.withdraw_points (c : Fin 16) (s : State) (p : Fin 8) :
    (s.withdraw c).points[p] = if s.chans[c].waitsAt p = true then s.points[p].leave c else s.points[p] := by
  unfold State.withdraw
  split
  · next q _ hst hq =>
    rw [State.modPoint_get]
    by_cases hp : p = q
    · subst hp
      rw [if_pos rfl, if_pos ((Channel.waitsAt_iff _ _).mpr ⟨hst, by rw [hq]; rfl⟩)]
    · have hnot : ¬ s.chans[c].waitsAt p = true := fun hw => by
        obtain ⟨-, hhead⟩ := (Channel.waitsAt_iff _ _).mp hw
        rw [hq] at hhead
        exact hp (Segment.sync.inj (Option.some.inj hhead)).symm
      rw [if_neg hp, if_neg hnot]
  · next hnot =>
    rw [if_neg]
    intro hw
    obtain ⟨hst, hhead⟩ := (Channel.waitsAt_iff _ _).mp hw
    obtain ⟨rest, hq⟩ := List.head?_eq_some_iff.mp hhead
    exact hnot p rest hst hq

theorem Point.Gathers.leave {pt : Point} {waits : Fin 16 → Bool} (h : pt.Gathers waits) (c : Fin 16) :
    (pt.leave c).Gathers fun x => waits x && decide (x ≠ c) where
  arrived x := by
    rw [← h.arrived x]
    exact ChSet.has_drop pt.arrived c x
  member x hx := by
    refine h.member x ?_
    simp only [Point.leave, ChSet.has_drop, Bool.and_eq_true] at hx
    exact hx.1
  runs := by
    simp only [Point.leave]
    split
    · next hzero => simp [hzero]
    · next hleft => rw [h.runs, bne_iff_ne.mpr hleft, bne_iff_ne.mpr (ChSet.ne_zero_of_drop hleft)]
  elapsed n hn := by
    simp only [Point.leave] at hn
    split at hn
    · cases hn
    · exact h.elapsed n hn

/-- A channel leaves its point, if it waits, and is then not WAITING. -/
theorem State.Gathers.withdraw {s t : State} (h : s.Gathers) {c : Fin 16} (hp : t.points = (s.withdraw c).points)
    (hothers : ∀ x : Fin 16, x ≠ c → t.chans[x] = s.chans[x]) (hc : t.chans[c].state ≠ .waiting) : t.Gathers where
  head x := by
    by_cases hx : x = c
    · subst hx
      exact Channel.waitsAtHead_of_not_waiting hc
    · rw [hothers x hx]
      exact h.head x
  point p := by
    have hgone := Channel.waitsAt_of_not_waiting hc p
    rw [hp, State.withdraw_points]
    split
    · refine ((h.point p).leave c).congr fun x => ?_
      by_cases hx : x = c
      · rw [hx, hgone, decide_eq_false (not_not.mpr rfl), Bool.and_false]
      · rw [hothers x hx, decide_eq_true hx, Bool.and_true]
    · next hnot =>
      refine (h.point p).congr fun x => ?_
      by_cases hx : x = c
      · rw [hx, hgone, Bool.eq_false_iff.mpr hnot]
      · rw [hothers x hx]

/-! ## Release and arrival (R48, R65, R67, R69) -/

theorem Channel.release_state (ch : Channel) (n : BitVec 32) : (ch.release n).state ≠ .waiting := by
  unfold Channel.release
  by_cases hw : ch.state = .waiting <;> simp [hw]

theorem State.releaseChannels_get (set : ChSet) (s : State) (c : Fin 16) :
    (s.releaseChannels set).chans[c] =
      if set.has c = true then s.chans[c].release s.tbs[s.chans[c].tb].periodCount else s.chans[c] := by
  unfold State.releaseChannels
  rw [State.mapChans_get]

/-- A released set with every arrived channel of the point in it, and no channel in it that waits elsewhere. -/
theorem State.Gathers.release {s : State} (h : s.Gathers) {p : Fin 8} {set : ChSet}
    (hset : ∀ c, set.has c = true → s.chans[c].waitsAt p = true ∨ s.chans[c].state ≠ .waiting)
    (hall : ∀ c, s.points[p].arrived.has c = true → set.has c = true) :
    ((s.releaseChannels set).modPoint p Point.afterRelease).Gathers where
  head c := by
    rw [State.modPoint_chans, State.releaseChannels_get]
    split
    · exact Channel.waitsAtHead_of_not_waiting (Channel.release_state _ _)
    · exact h.head c
  point q := by
    have hwaits (c : Fin 16) : (s.releaseChannels set).chans[c].waitsAt q =
        (s.chans[c].waitsAt q && !set.has c) := by
      rw [State.releaseChannels_get]
      split
      · next hc => simp [hc, Channel.waitsAt_of_not_waiting (Channel.release_state _ _)]
      · next hc => simp [hc]
    rw [State.modPoint_get, State.modPoint_chans, State.releaseChannels_points]
    split
    · next hq =>
      subst hq
      refine ⟨fun c => ?_, fun c hc => ?_, rfl, fun _ hn => by cases hn⟩
      · rw [hwaits]
        refine (ChSet.has_zero c).trans (Eq.symm ?_)
        by_cases hw : s.chans[c].waitsAt q = true
        · rw [hw, hall c ((h.waitsAt_eq q c).trans hw)]
          rfl
        · rw [Bool.eq_false_iff.mpr hw]
          rfl
      · exact absurd ((ChSet.has_zero c).symm.trans hc) (by decide)
    · next hq =>
      refine (h.point q).congr fun c => ?_
      rw [hwaits]
      by_cases hc : set.has c = true
      · have hnot : s.chans[c].waitsAt q = false := by
          rcases hset c hc with hp | hst
          · exact Bool.eq_false_iff.mpr fun hw => hq (Channel.waitsAt_unique hw hp)
          · exact Channel.waitsAt_of_not_waiting hst q
        rw [hnot]
        rfl
      · rw [Bool.eq_false_iff.mpr hc, Bool.not_false, Bool.and_true]

theorem State.Gathers.expireGathering {s : State} (h : s.Gathers) (p : Fin 8) : (s.expireGathering p).Gathers :=
  (h.release (fun c hc => .inl ((h.waitsAt_eq p c).symm.trans hc)) fun _ hc => hc).sameWaits (.offer _ _)

/-- The first arrival starts the timer, unless the timeout is zero; a later one lets it run on (R65). -/
theorem Point.Gathers.join {pt : Point} {waits : Fin 16 → Bool} (h : pt.Gathers waits) {c : Fin 16}
    (hmember : pt.members.has c = true) : (pt.join c).Gathers fun x => waits x || decide (x = c) where
  arrived x := by
    rw [← h.arrived x]
    exact ChSet.has_add pt.arrived c x
  member x hx := by
    simp only [Point.join, ChSet.has_add, Bool.or_eq_true, decide_eq_true_eq] at hx
    rcases hx with hx | rfl
    · exact h.member x hx
    · exact hmember
  runs := by
    have hadd : (pt.arrived.add c != 0) = true := bne_iff_ne.mpr (ChSet.add_ne_zero _ _)
    simp only [Point.join]
    rw [hadd, Bool.true_and]
    split
    · by_cases hto : pt.timeout = 0 <;> simp [hto]
    · next hsome => rw [h.runs, bne_iff_ne.mpr hsome, Bool.true_and]
  elapsed n hn := by
    simp only [Point.join] at hn ⊢
    split at hn
    · split at hn
      · cases hn
      · next hto =>
        cases hn
        exact Nat.pos_of_ne_zero hto
    · exact h.elapsed n hn

theorem State.Gathers.arrive {s : State} (h : s.Gathers) {c : Fin 16} {p : Fin 8} {rest : List Segment}
    (hc : s.chans[c].state ≠ .waiting) (hq : s.chans[c].queue = .sync p :: rest)
    (hmember : s.points[p].members.has c = true) : (s.arrive c p).Gathers := by
  unfold State.arrive
  split
  · next hfull =>
    refine (h.release (fun x hx => ?_) fun x hx => ?_).sameWaits (.offer _ _)
    · rw [← hfull, ChSet.has_add, Bool.or_eq_true, decide_eq_true_eq] at hx
      rcases hx with hx | rfl
      · exact .inl ((h.waitsAt_eq p x).symm.trans hx)
      · exact .inr hc
    · rw [← hfull, ChSet.has_add, hx]
      rfl
  · have hget (x : Fin 16) :
        ((s.modPoint p fun pt => pt.join c).modChan c fun ch => { ch with state := .waiting }).chans[x] =
          if x = c then { s.chans[c] with state := .waiting } else s.chans[x] := State.modChan_get c x _ _
    refine ⟨fun x => ?_, fun q => ?_⟩
    · rw [hget]
      split
      · exact fun _ => ⟨p, by rw [hq]; rfl⟩
      · exact h.head x
    · have hhere : Channel.waitsAt { s.chans[c] with state := .waiting } q = decide (q = p) := by
        rw [Bool.eq_iff_iff, Channel.waitsAt_iff, decide_eq_true_eq]
        simp [-Fin.getElem_fin, hq, eq_comm]
      have hbefore := Channel.waitsAt_of_not_waiting hc q
      rw [State.modChan_points, State.modPoint_get]
      split
      · next hqp =>
        subst hqp
        refine ((h.point q).join hmember).congr fun x => ?_
        rw [hget]
        by_cases hx : x = c
        · rw [if_pos hx, hhere, decide_eq_true hx, Bool.or_true, decide_eq_true rfl]
        · rw [if_neg hx, decide_eq_false hx, Bool.or_false]
      · next hqp =>
        refine (h.point q).congr fun x => ?_
        rw [hget]
        by_cases hx : x = c
        · rw [if_pos hx, hhere, hx, hbefore, decide_eq_false hqp]
        · rw [if_neg hx]

/-! ## Operations that change no point and no wait -/

/-- Restarting a pair changes that pair alone. -/
theorem State.restartPair_frame (k : Fin 8) (s : State) : ∃ v, s.restartPair k = { s with pairs := v } := by
  unfold State.restartPair
  split
  · exact ⟨_, rfl⟩
  · exact ⟨s.pairs, rfl⟩

/-- A CH_CONFIG reaches the pairs alone after the channels (R83, R84). -/
theorem State.rebindPair_frame (c : Fin 16) (s old : State) : ∃ v, s.rebindPair c old = { s with pairs := v } := by
  unfold State.rebindPair
  dsimp only
  split
  · exact ⟨s.pairs, rfl⟩
  · split
    · split
      · exact ⟨_, rfl⟩
      · exact ⟨s.pairs, rfl⟩
    · split
      · exact s.restartPair_frame _
      · split
        · exact ⟨s.pairs, rfl⟩
        · exact ⟨_, rfl⟩

/-- A withdrawal changes the points alone. -/
theorem State.withdraw_frame (c : Fin 16) (s : State) : ∃ v, s.withdraw c = { s with points := v } := by
  unfold State.withdraw
  split
  · exact ⟨_, rfl⟩
  · exact ⟨s.points, rfl⟩

theorem State.Gathers.withdraw_modChan {s : State} (h : s.Gathers) {c : Fin 16} {f : Channel → Channel}
    (hf : (f s.chans[c]).state ≠ .waiting) : ((s.withdraw c).modChan c f).Gathers := by
  refine h.withdraw rfl (fun x hx => ?_) ?_
  · rw [State.modChan_get, if_neg hx, State.withdraw_chans]
  · rw [State.modChan_get, if_pos rfl, State.withdraw_chans]
    exact hf

theorem SameWaits.of_pairs {s t : State} (h : ∃ v, t = { s with pairs := v }) : SameWaits s t := by
  obtain ⟨v, rfl⟩ := h
  exact .of_eq rfl rfl

theorem boundaryPair_sameWaits (c : Fin 16) (starts x : Bool) (s before : State) :
    SameWaits s (s.boundaryPair c starts x before) := by
  unfold State.boundaryPair
  dsimp only
  split
  · exact .refl s
  · split
    · exact .of_pairs (s.restartPair_frame _)
    · exact .of_eq rfl rfl

theorem stageLevel_sameWaits (c : Fin 16) (s : State) : SameWaits s (s.stageLevel c) := by
  unfold State.stageLevel
  split
  · exact .refl s
  · exact (SameWaits.modChan (.of_eq rfl rfl)).trans (.offerIf _ _ _)

/-- Pending control as R42 says it, case by case. -/
theorem Channel.applyControl_eq (ch : Channel) : ch.applyControl = { ch with
    pendingControl := .none
    state :=
      if ch.state = .running ∧ ch.pendingControl = .pause then .paused
      else if ch.state = .paused ∧ ch.pendingControl = .resume then .running
      else if ch.state = .armed then .running
      else ch.state } := by
  unfold Channel.applyControl
  cases ch.pendingControl <;> cases ch.state <;> rfl

theorem stageControl_sameWaits (c : Fin 16) (s : State) : SameWaits s (s.stageControl c) := by
  refine .modChan ⟨?_, fun _ => rfl⟩
  rw [Channel.applyControl_eq]
  cases hst : s.chans[c].state <;> cases s.chans[c].pendingControl <;> simp

theorem stageLatch_sameWaits (c : Fin 16) (s : State) : SameWaits s (s.stageLatch c) := .modChan (.of_eq rfl rfl)

theorem stageUnforce_sameWaits (c : Fin 16) (s : State) : SameWaits s (s.stageUnforce c) := by
  unfold State.stageUnforce
  split
  · exact .modChan (.of_eq rfl rfl)
  · exact .refl s

/-- A head completes only on a channel that does not wait. -/
theorem completeHead_sameWaits {c : Fin 16} {s : State} (h : s.chans[c].state ≠ .waiting) :
    SameWaits s (s.completeHead c) := by
  have hmod (q : List Segment) : SameWaits s (s.modChan c fun ch => { ch with queue := q, run := .clear }) :=
    .modChan (.of_not_waiting h h)
  unfold State.completeHead
  split
  · exact .refl s
  · split
    · exact (hmod _).trans (.of_eq rfl rfl)
    · exact hmod _

theorem endProgram_sameWaits {c : Fin 16} {s : State} (h : s.chans[c].state ≠ .waiting) :
    SameWaits s (s.endProgram c) :=
  (SameWaits.offer _ s).trans (.modChan (.of_not_waiting h (by simp)))

/-! ## The boundary (chapter 3) -/

/-- A channel whose pending list becomes its queue, its head not started; a WAITING one runs (R41). -/
def Channel.applyList (segs : List Segment) (ch : Channel) : Channel :=
  { ch with
    queue := segs, run := .clear, replacement := none
    state := if ch.state = .waiting then .running else ch.state }

theorem Channel.applyList_state (segs : List Segment) (ch : Channel) : (ch.applyList segs).state ≠ .waiting := by
  unfold Channel.applyList
  dsimp only
  split
  · decide
  · next hst => exact hst

/-- The pending list applied: the channel leaves its point, the old queue is freed, the list is the queue (R41, R33). -/
theorem State.stageReplacement_of_some {c : Fin 16} {s : State} {r : Replacement}
    (h : s.chans[c].replacement = some r) :
    s.stageReplacement c = State.offerIf r.notify (fun seq => .applied seq (.segReplace c))
      { (s.withdraw c).modChan c fun ch => ch.applyList r.segments with
        free := s.free + s.chans[c].queue.length } := by
  obtain ⟨v, hv⟩ := s.withdraw_frame c
  simp only [State.stageReplacement, State.promote, h, hv]
  simp [State.modChan, Channel.applyList]

theorem State.Gathers.stageReplacement {s : State} (h : s.Gathers) (c : Fin 16) : (s.stageReplacement c).Gathers := by
  cases hr : s.chans[c].replacement with
  | none =>
    simp only [State.stageReplacement, hr]
    exact h
  | some r =>
    rw [State.stageReplacement_of_some hr]
    have happlied : ((s.withdraw c).modChan c fun ch => ch.applyList r.segments).Gathers :=
      h.withdraw_modChan (Channel.applyList_state _ _)
    refine State.Gathers.sameWaits ?_ (.offerIf _ _ _)
    exact happlied.sameWaits (.of_eq rfl rfl)

theorem State.Gathers.startHeads {c : Fin 16} (n : Nat) {s : State} (h : s.Gathers)
    (hc : s.chans[c].state ≠ .waiting) : (State.startHeads c n s).Gathers := by
  induction n generalizing s with
  | zero =>
    unfold State.startHeads
    split
    · exact h.sameWaits (endProgram_sameWaits hc)
    · exact h
  | succ n ih =>
    have next {t : State} (g : SameWaits s t) : (State.startHeads c n (t.completeHead c)).Gathers := by
      have ht : t.chans[c].state ≠ .waiting := fun hw => hc ((g.chans c).state.mp hw)
      have hcomplete := completeHead_sameWaits ht
      exact ih ((h.sameWaits g).sameWaits hcomplete) fun hw => ht ((hcomplete.chans c).state.mp hw)
    unfold State.startHeads
    split
    · exact h.sameWaits (endProgram_sameWaits hc)
    · exact next (.modChan (.of_eq rfl rfl))
    · exact next (.offer _ s)
    · exact h.sameWaits (.modChan (.of_eq rfl rfl))
    · exact h.sameWaits (.modChan (.of_eq rfl rfl))
    · next hq =>
      split
      · next hmember => exact h.arrive hc hq hmember
      · exact next (.offer _ s)

theorem State.Gathers.stageAdvance {s : State} (h : s.Gathers) (c : Fin 16) : (s.stageAdvance c).Gathers := by
  unfold State.stageAdvance
  dsimp only
  split
  · exact h
  · next hrun =>
    have hc : s.chans[c].state ≠ .waiting := by
      rw [not_not.mp hrun]
      decide
    split
    · exact h.startHeads _ hc
    · exact h.sameWaits (.modChan (.of_eq rfl rfl))
    · have hcomplete := completeHead_sameWaits hc
      exact (h.sameWaits hcomplete).startHeads _ fun hw => hc ((hcomplete.chans c).state.mp hw)
    · exact h

theorem State.Gathers.handleBoundary {s : State} (h : s.Gathers) (starts : Bool) (c : Fin 16) (old : State) :
    (s.handleBoundary starts c old).Gathers := by
  have hlisted := (h.sameWaits (stageLevel_sameWaits c s)).stageReplacement c
  have hadvanced := (hlisted.sameWaits (stageControl_sameWaits c _)).stageAdvance c
  have hsix := hadvanced.sameWaits ((stageLatch_sameWaits c _).trans (stageUnforce_sameWaits c _))
  exact hsix.sameWaits (boundaryPair_sameWaits c starts _ _ _)

theorem State.Gathers.setChoice {s : State} (h : s.Gathers) (n : Nat) : State.Gathers { s with choice := n } :=
  h.sameWaits (.of_eq rfl rfl)

theorem State.Gathers.forEachInAnyOrder {α : Type} {s : State} (h : s.Gathers) {xs : List α} {f : α → State → State}
    (hf : ∀ x ∈ xs, ∀ u : State, u.Gathers → (f x u).Gathers) : (forEachInAnyOrder xs f s).Gathers :=
  forEachInAnyOrder_induction State.Gathers xs f (fun _ n hu => hu.setChoice n) hf s h

theorem State.Gathers.boundary {s : State} (h : s.Gathers) (starts : Bool) (b : Fin 4) :
    (s.boundary starts b).Gathers := by
  refine State.Gathers.forEachInAnyOrder (h.sameWaits (.modTb b _ s)) fun part _ u hu => ?_
  cases part with
  | applied seq => exact hu.sameWaits (.offer _ u)
  | channel c => exact hu.handleBoundary starts c s

theorem State.Gathers.tickTimebase {s : State} (h : s.Gathers) (b : Fin 4) : (s.tickTimebase b).Gathers := by
  unfold State.tickTimebase
  split
  · exact h.boundary false b
  · exact h.sameWaits (.of_eq rfl rfl)

/-! ## Faults and speed units (chapters 7 and 8) -/

theorem forceChannel_sameWaits (c : Fin 16) (s : State) : SameWaits s (s.forceChannel c) := by
  have hforced : SameWaits s (s.modChan c fun ch => { ch with forced := true }) := .modChan (.of_eq rfl rfl)
  unfold State.forceChannel State.forcePair
  split
  · exact hforced.trans (.of_eq rfl rfl)
  · exact hforced

theorem State.Gathers.stopChannel {s : State} (h : s.Gathers) (c : Fin 16) : (s.stopChannel c).Gathers := by
  unfold State.stopChannel
  split
  · exact h
  · exact h.withdraw_modChan ChState.noConfusion

theorem State.Gathers.coverChannel {s : State} (h : s.Gathers) (f : Fin 4) (c : Fin 16) :
    (s.coverChannel f c).Gathers := by
  have hforced := h.sameWaits (forceChannel_sameWaits c s)
  unfold State.coverChannel
  split
  · exact h
  · exact hforced
  · exact hforced.stopChannel c

theorem State.Gathers.activateFault {s : State} (h : s.Gathers) (f : Fin 4) : (s.activateFault f).Gathers := by
  have hactive := h.sameWaits (.modFault f (fun src => { src with active := true }) s)
  unfold State.activateFault State.latchFault
  dsimp only
  split
  · exact hactive
  · exact forEach_induction State.Gathers _ _ (fun c _ u hu => hu.coverChannel f c) _
      (hactive.sameWaits ((SameWaits.offer _ _).trans (.modFault f _ _)))

theorem State.Gathers.sampleFaults {s : State} (h : s.Gathers) (flt : Vector Bool 2) : (s.sampleFaults flt).Gathers :=
  State.Gathers.forEachInAnyOrder (h.sameWaits ((SameWaits.modFault 0 _ s).trans (.modFault 1 _ _)))
    fun f _ _ hu => hu.activateFault f

theorem settleSpeed_sameWaits (s : State) : SameWaits s s.settleSpeed := by
  unfold State.settleSpeed
  split
  · exact .refl s
  · exact .of_eq rfl rfl

theorem State.Gathers.expireWindow {s : State} (h : s.Gathers) (u : Fin 4) : (s.expireWindow u).Gathers := by
  refine State.Gathers.sameWaits (State.Gathers.forEachInAnyOrder (h.sameWaits (.modUnit u _ s)) fun e _ t ht => ?_)
    (settleSpeed_sameWaits _)
  cases e with
  | report r => exact ht.sameWaits (.offer r t)
  | raiseSpeed => exact ht.activateFault speed

/-- A FAULTED channel that returns becomes IDLE or PAUSED (R107). -/
theorem clearFault_sameWaits (f : Fin 4) (s : State) : SameWaits s (s.clearFault f) := by
  refine ((SameWaits.modFault f _ s).trans (.offer _ _)).trans (.mapChans fun c => ?_)
  split
  · next hfaulted =>
    refine .of_not_waiting (by rw [hfaulted.1]; decide) ?_
    unfold Channel.returned
    dsimp only
    split <;> decide
  · exact .refl _

/-- A timer that does not expire stays below its timeout (R66). -/
theorem State.Gathers.advanceTimers {s : State} (h : s.Gathers) : s.advanceTimers.Gathers where
  head := h.head
  point p := by
    obtain ⟨arrived, member, runs, elapsed⟩ := h.point p
    have hget : s.advanceTimers.points[p] =
        { s.points[p] with timer := countMs (s.counts (.gather p)) s.points[p].timer } := getFin_ofFn _ p
    rw [hget]
    refine ⟨arrived, member, ?_, ?_⟩
    · rw [← runs]
      unfold countMs
      split
      · exact Option.isSome_map
      · rfl
    · intro n hn
      unfold countMs at hn
      split at hn
      · next hcounts =>
        obtain ⟨e, he, rfl⟩ := Option.map_eq_some_iff.mp hn
        simp only [State.counts, State.due, he, Bool.and_eq_true, Bool.not_eq_true', decide_eq_false_iff_not] at hcounts
        exact Nat.not_le.mp hcounts.1
      · exact elapsed n hn

/-! ## Requests -/

theorem freeReplacement_sameWaits (c : Fin 16) (s : State) : SameWaits s (s.freeReplacement c) := by
  have hfreed : SameWaits s (s.modChan c fun ch => { ch with replacement := none }) := .modChan (.of_eq rfl rfl)
  unfold State.freeReplacement
  split
  · exact .refl s
  · exact hfreed.trans (.of_eq rfl rfl)

theorem supersedeReplacement_sameWaits (c : Fin 16) (s : State) : SameWaits s (s.supersedeReplacement c) := by
  unfold State.supersedeReplacement
  split
  · exact .refl s
  · exact (freeReplacement_sameWaits c s).trans (.offerIf _ _ _)

/-- Segments at the tail leave the head that a WAITING channel has (R28). -/
theorem State.Gathers.takeToQueue {s : State} (h : s.Gathers) (c : Fin 16) (segs : List Segment) :
    (s.takeToQueue c segs).Gathers := by
  have happended : SameWaits s (s.modChan c fun ch => { ch with queue := ch.queue ++ segs }) := by
    refine .modChan ⟨.rfl, fun hw => ?_⟩
    obtain ⟨p, hp⟩ := h.head c hw
    obtain ⟨rest, hq⟩ := List.head?_eq_some_iff.mp hp
    rw [hq]
    rfl
  exact h.sameWaits (happended.trans (.of_eq rfl rfl))

theorem takeToReplacement_sameWaits (c : Fin 16) (segs : List Segment) (notify : Option Byte) (s : State) :
    SameWaits s (s.takeToReplacement c segs notify) := by
  have htaken : SameWaits s (s.modChan c fun ch =>
      { ch with replacement := some { segments := segs, notify := notify } }) := .modChan (.of_eq rfl rfl)
  exact htaken.trans (.of_eq rfl rfl)

theorem configChannel_sameWaits (c : Fin 16) (tb : Fin 4) (mode : Mode) (safe : Bool) (s : State) :
    SameWaits s (s.configChannel c tb mode safe) :=
  .mapChans fun i => by
    split
    · exact .of_eq rfl rfl
    · split <;> exact .of_eq rfl rfl

/-- A channel as CH_FLUSH leaves it (R57). -/
def Channel.flushed (ch : Channel) : Channel :=
  { ch with
    queue := [], run := .clear, replacement := none, pendingControl := .none
    state := if ch.state = .faulted then .faulted else .idle }

theorem Channel.flushed_state (ch : Channel) : ch.flushed.state ≠ .waiting := by
  unfold Channel.flushed
  dsimp only
  split <;> decide

/-- CH_FLUSH of one channel as one change: it leaves its point, its records are free, and its notified pending list is
reported (R57, R71). -/
theorem State.flushChannel_eq (c : Fin 16) (s : State) : s.flushChannel c =
    State.offerIf (s.chans[c].replacement.bind fun r => r.notify) (fun seq => .superseded seq (.segReplace c))
      { (s.withdraw c).modChan c Channel.flushed with free := s.free + s.chans[c].holds } := by
  obtain ⟨v, hv⟩ := s.withdraw_frame c
  simp only [State.flushChannel, State.supersedeReplacement, State.freeReplacement, State.freeQueue, hv]
  cases hr : s.chans[c].replacement with
  | none =>
    have hr' : s.chans[c.val].replacement = none := hr
    simp [State.modChan, State.offerIf, Channel.flushed, Channel.holds, hr']
  | some r =>
    have hr' : s.chans[c.val].replacement = some r := hr
    simp [State.modChan, Channel.flushed, Channel.holds, hr', Nat.add_assoc]
    cases r.notify <;> simp [State.offerIf, State.offer]

theorem State.Gathers.flushChannel {s : State} (h : s.Gathers) (c : Fin 16) : (s.flushChannel c).Gathers := by
  rw [State.flushChannel_eq]
  refine State.Gathers.sameWaits ?_ (.offerIf _ _ _)
  have hflushed : ((s.withdraw c).modChan c Channel.flushed).Gathers :=
    h.withdraw_modChan (Channel.flushed_state _)
  exact hflushed.sameWaits (.of_eq rfl rfl)

/-- A point is defined only while no channel has arrived there, so its timer is stopped (R64). -/
theorem State.Gathers.definePoint {s : State} (h : s.Gathers) {p : Fin 8} (hempty : s.points[p].arrived = 0)
    (members : ChSet) (timeout : Nat) :
    (s.modPoint p fun pt => { pt with members := members, timeout := timeout }).Gathers where
  head := h.head
  point q := by
    rw [State.modPoint_chans, State.modPoint_get]
    split
    · next hq =>
      subst hq
      obtain ⟨arrived, -, runs, -⟩ := h.point q
      have hnone : s.points[q].timer = none := by simpa [-Fin.getElem_fin, hempty] using runs
      refine ⟨arrived, fun c hc => ?_, ?_, fun n hn => ?_⟩
      · dsimp only at hc
        rw [hempty] at hc
        exact absurd ((ChSet.has_zero c).symm.trans hc) (by decide)
      · simp [-Fin.getElem_fin, hnone, hempty]
      · dsimp only at hn
        rw [hnone] at hn
        cases hn
    · exact h.point q

theorem enablePair_sameWaits (k : Fin 8) (d : Nat) (s : State) : SameWaits s (s.enablePair k d) := by
  unfold State.enablePair
  exact ((SameWaits.modPair k _ s).trans (.modChan (.of_eq rfl rfl))).trans (.of_pairs (State.restartPair_frame k _))

theorem disablePair_sameWaits (k : Fin 8) (d : Nat) (s : State) : SameWaits s (s.disablePair k d) := by
  unfold State.disablePair
  exact (SameWaits.modPair k _ s).trans (.modChan (.of_eq rfl rfl))

theorem State.Gathers.coverRetested {s : State} (h : s.Gathers) (k : Fin 8) : (s.coverRetested k).Gathers :=
  forEach_induction State.Gathers _ _ (fun f _ _ hu => hu.coverChannel f _) s h

theorem State.Gathers.configPair {s : State} (h : s.Gathers) (k : Fin 8) (enable : Bool) (d : Nat) :
    (s.configPair k enable d).Gathers := by
  unfold State.configPair
  split
  · exact (h.sameWaits (enablePair_sameWaits k d s)).coverRetested k
  · exact h.sameWaits (.modPair k _ s)
  · exact (h.sameWaits (disablePair_sameWaits k d s)).coverRetested k
  · exact h.sameWaits (.modPair k _ s)

theorem dropPendingPeriod_sameWaits (b : Fin 4) (s : State) : SameWaits s (s.dropPendingPeriod b) :=
  (SameWaits.modTb b _ s).trans (.offerIf _ _ _)

theorem mapTbs_sameWaits (f : Fin 4 → Timebase → Timebase) (s : State) : SameWaits s (s.mapTbs f) :=
  .of_eq (State.mapTbs_chans f s) (State.mapTbs_points f s)

theorem mapUnits_sameWaits (f : Fin 4 → SpeedUnit → SpeedUnit) (s : State) : SameWaits s (s.mapUnits f) :=
  .of_eq (State.mapUnits_chans f s) (State.mapUnits_points f s)

theorem haltPairs_sameWaits (halted : Fin 4 → Bool) (s : State) : SameWaits s (s.haltPairs halted) :=
  .of_eq (State.mapPairs_chans _ s) (State.mapPairs_points _ s)

theorem State.Gathers.startTbs {s : State} (h : s.Gathers) (set : List (Fin 4)) : (s.startTbs set).Gathers :=
  State.Gathers.forEachInAnyOrder (h.sameWaits (mapTbs_sameWaits _ s)) fun b _ _ hu => hu.boundary true b

theorem State.Gathers.request {s t : State} (h : s.Gathers) (e : RequestEffect s t) : t.Gathers := by
  cases e with
  | sameBlocks hst => exact h.sameWaits (.of_sameBlocks hst)
  | timebase b f _ hst =>
    exact h.sameWaits (((dropPendingPeriod_sameWaits b s).trans (.modTb b f _)).trans (.of_sameBlocks hst))
  | tbStart set _ => exact h.startTbs set
  | tbStop set => exact h.sameWaits ((mapTbs_sameWaits _ s).trans (haltPairs_sameWaits _ _))
  | chQuota q => exact h.sameWaits (.mapChans fun _ => .of_eq rfl rfl)
  | segAppend c segs _ => exact h.takeToQueue c segs
  | segReplace c segs notify _ =>
    exact h.sameWaits ((supersedeReplacement_sameWaits c s).trans (takeToReplacement_sameWaits c segs notify _))
  | chConfig c tb mode safe _ _ =>
    exact h.sameWaits ((configChannel_sameWaits c tb mode safe s).trans (.of_pairs (State.rebindPair_frame c _ s)))
  | chLevel c p _ _ => exact h.sameWaits ((SameWaits.modChan (.of_eq rfl rfl)).trans (.offerIf _ _ _))
  | chStart set _ idle =>
    refine h.sameWaits (.modSet fun c hc => .of_not_waiting ?_ ChState.noConfusion)
    rw [idle c hc]
    exact ChState.noConfusion
  | chPause set _ => exact h.sameWaits (.modSet fun _ _ => .of_eq rfl rfl)
  | chResume set _ => exact h.sameWaits (.modSet fun _ _ => .of_eq rfl rfl)
  | chFlush set _ => exact h.forEachInAnyOrder fun c _ _ hu => hu.flushChannel c
  | rpDefine p members timeout empty => exact h.definePoint empty members timeout
  | pairConfig k enable d _ _ => exact h.configPair k enable d
  | faultConfig f action chans input _ _ _ _ => exact h.sameWaits (.modFault f _ s)
  | faultClear f _ _ => exact h.sameWaits (clearFault_sameWaits f s)
  | smConfig u cfg => exact h.sameWaits ((SameWaits.modUnit u _ s).trans (settleSpeed_sameWaits _))

/-! ## Every step -/

theorem State.gathers_afterReset (cause : ResetCause) (s : State) : (s.afterReset cause).Gathers where
  head c := by
    have hget : (s.afterReset cause).chans[c] = .reset := Vector.getElem_replicate _
    rw [hget]
    exact Channel.waitsAtHead_of_not_waiting ChState.noConfusion
  point p := by
    have hpoint : (s.afterReset cause).points[p] = .reset := Vector.getElem_replicate _
    rw [hpoint]
    refine ⟨fun c => ?_, fun c hc => ?_, rfl, fun _ hn => by cases hn⟩
    · have hget : (s.afterReset cause).chans[c] = .reset := Vector.getElem_replicate _
      rw [hget]
      exact ChSet.has_zero c
    · exact absurd ((ChSet.has_zero c).symm.trans hc) (by decide)

/-- Arrivals, releases and withdrawals keep Law 3, and nothing else touches it. -/
theorem gathers_blockInvariant : BlockInvariant State.Gathers where
  congr h hst := h.sameWaits (.of_sameBlocks hst)
  reset := State.gathers_afterReset
  perform f s h := h.request (perform_effect f s)
  clock s h := h.sameWaits (mapTbs_sameWaits _ s)
  tick b _ _ h := h.tickTimebase b
  riseA k s _ h := h.sameWaits (.modPair k _ s)
  riseB k s _ h := h.sameWaits (.modPair k _ s)
  sample lines s h := by
    have hunits := h.sameWaits (mapUnits_sameWaits (fun u unit => unit.sample lines.tach[u]) s)
    exact hunits.sampleFaults lines.flt
  advance _ h := h.advanceTimers
  gather p _ _ h := h.expireGathering p
  window u _ _ h := h.expireWindow u
  silenceOn _ h := h.activateFault silence
  silenceOff s h := h.sameWaits (.modFault silence _ s)

/-- Settles O52: Law 3 and the timer hold point by point, through every arrival, release and withdrawal. -/
theorem stepKeepsTheRendezvous : Obligations.StepKeepsTheRendezvous := fun s t h ht =>
  t.gathers_iff.mp (gathers_blockInvariant.step (s.gathers_iff.mpr h) ht)

end Sys2Proof.Machine

namespace Sys2Proof.Machine

/-! # O18 and O21: CH_LEVEL and CH_QUERY -/

theorem perform_chLevel (seq : Byte) (p : List Byte) (s : State) :
    perform (requestFrame seq RequestKind.chLevel.code p) s = takeChLevel seq p s := rfl

theorem perform_chQuery (seq : Byte) (p : List Byte) (s : State) :
    perform (requestFrame seq RequestKind.chQuery.code p) s = takeChQuery p s := rfl

theorem mark?_of_le {v : Nat} (h : v ≤ 1) : mark? v = some (decide (v = 1)) := by
  match v, h with
  | 0, _ => rfl
  | 1, _ => rfl

/-- The checks of CH_CONFIG and CH_LEVEL in order (R38, R53). -/
theorem checked_idle {ch : Channel} (s : State) (e : Reply × State) :
    let answer := checked [(ch.locked, .locked), (ch.state != .idle, .state)] s e
    (ch.locked = true → answer = refuse .locked s) ∧
      (ch.locked = false → ch.state ≠ .idle → answer = refuse .state s) ∧
      (ch.locked = false → ch.state = .idle → answer = e) := by
  refine ⟨fun hlocked => ?_, fun hfree hbusy => ?_, fun hfree hidle => ?_⟩
  · rw [checked_cons, if_pos hlocked]
  · rw [hfree, checked_passes, checked_cons, if_pos (bne_iff_ne.mpr hbusy)]
  · rw [hfree, checked_passes, hidle, bne_self_eq_false, checked_passes, checked_nil]

theorem chLevel_fields {n level mark : Nat} (hn : n < 256) (hl : level < 65536) (hm : mark < 256) :
    let p := le8 n ++ le16 level ++ le8 mark
    p.length = 4 ∧ u8 p 0 = n ∧ u16 p 1 = level ∧ u8 p 3 = mark :=
  ⟨rfl, toNat_ofNat_byte hn, toNat_ofNat_bytes hl, toNat_ofNat_byte hm⟩

theorem takeChLevel_badArg {seq : Byte} {p : List Byte} (hlen : p.length = 4)
    (h : ¬(u8 p 0 ≤ 15 ∧ u16 p 1 ≤ 4096 ∧ u8 p 3 ≤ 1)) (s : State) :
    takeChLevel seq p s = refuse .badArg s := by
  rw [takeChLevel, if_neg (not_not.mpr hlen)]
  split
  · next c level notify hc hl hm =>
    refine absurd ⟨?_, ?_, ?_⟩ h
    · by_contra hlt
      exact absurd (hc.symm.trans (element?_none (by omega))) (by simp)
    · by_contra hlt
      exact absurd (hl.symm.trans (within?_none (by omega))) (by simp)
    · by_contra hlt
      exact absurd (hm.symm.trans (mark?_none (by omega))) (by simp)
  · rfl

theorem takeChLevel_inArg {seq : Byte} {p : List Byte} {x : Fin 16} (hlen : p.length = 4) (hx : u8 p 0 = x.val)
    (hl : u16 p 1 ≤ 4096) (hm : u8 p 3 ≤ 1) (s : State) :
    takeChLevel seq p s =
      checked [(s.chans[x].locked, .locked), (s.chans[x].state != .idle, .state)] s
        (accept .pending [] ((s.modChan x fun ch => { ch with
          pendingLevel := some { level := u16 p 1, notify := if u8 p 3 = 1 then some seq else none } }).offerIf
            s.chans[x].levelSeq fun old => .superseded old (.chLevel x))) := by
  have hlevel : level? (u16 p 1) = some (u16 p 1) := within?_of ⟨Nat.zero_le _, hl⟩
  rw [takeChLevel, if_neg (not_not.mpr hlen), hx, element?_val, hlevel, mark?_of_le hm]
  simp only [decide_eq_true_eq]

/-- Settles O18: the fields are read back from the payload, and the checks are those of R53. -/
theorem chLevelEffect : Obligations.ChLevelEffect := by
  intro s seq n level mark hn hl hm c inRange hready
  obtain ⟨hlen, h0, h1, h3⟩ := chLevel_fields hn hl hm
  refine ⟨fun hbad => refused_of_perform (k := .chLevel) hready ?_, fun x hx hin => ?_⟩
  · exact takeChLevel_badArg hlen (by rw [h0, h1, h3]; exact hbad) s.heard
  · obtain ⟨-, hlevel, hmark⟩ := hin
    have htake := takeChLevel_inArg (seq := seq) hlen (h0.trans hx) (by rw [h1]; exact hlevel)
      (by rw [h3]; exact hmark) s.heard
    rw [h1, h3] at htake
    obtain ⟨hlocked, hbusy, hidle⟩ := checked_idle (ch := s.heard.chans[x]) s.heard
      (accept .pending [] ((s.heard.modChan x fun ch => { ch with
        pendingLevel := some { level := level, notify := if mark = 1 then some seq else none } }).offerIf
          s.heard.chans[x].levelSeq fun old => .superseded old (.chLevel x)))
    exact ⟨fun h => refused_of_perform (k := .chLevel) hready (htake.trans (hlocked h)),
      fun h h' => refused_of_perform (k := .chLevel) hready (htake.trans (hbusy h h')),
      fun h h' => accepted_of_perform (k := .chLevel) hready (htake.trans (hidle h h'))⟩

/-- Table 64: what may be absent has its place, and there its bytes are zero. -/
theorem Channel.payload_bytes (ch : Channel) :
    ch.payload = le8 ch.state.code ++ le8 ch.tb.val ++ le8 ch.mode.code ++ flagByte ch.safe ++
      le16 ch.level ++ le16 ch.dutyI ++ le8 ch.dutyF ++
      (match ch.pendingLevel with
        | none => [0, 0, 0, 0, 0]
        | some q => [1] ++ le16 q.level ++ notifyBytes q.notify) ++
      le8 ch.pendingControl.code ++ flagByte ch.forced ++ flagByte ch.locked ++
      le16 ch.quota ++ le16 ch.queue.length ++
      (match ch.replacement with
        | none => [0, 0, 0, 0]
        | some r => [1] ++ le8 r.segments.length ++ notifyBytes r.notify) ++
      (match ch.queue with
        | [] => List.replicate 12 0
        | head :: _ => [1] ++ head.bytes ++ le16 ch.run.k ++ le16 ch.run.start ++ flagByte ch.run.released) ++
      le32 ch.stamp.toNat := by
  unfold Channel.payload Channel.runBytes
  cases ch.pendingLevel <;> cases ch.replacement <;> cases ch.queue <;>
    simp only [List.append_assoc] <;> rfl

/-- Settles O21: a length test, a number test and the record's bytes. -/
theorem chQueryAnswers : Obligations.ChQueryAnswers := by
  refine fun s seq n hready => ⟨fun hbad => refused_of_perform (k := .chQuery) hready ?_,
    fun x hx => accepted_of_perform (k := .chQuery) hready ?_⟩
  · simp [perform_chQuery, takeChQuery, u8_single, element?_none hbad]
  · rw [perform_chQuery, takeChQuery, u8_single, hx, element?_val]
    exact congrArg (accept .ok · s.heard) (Channel.payload_bytes s.chans[x])

end Sys2Proof.Machine

namespace Sys2Proof.Machine

/-! # O17: CH_CONFIG -/

theorem perform_chConfig (seq : Byte) (p : List Byte) (s : State) :
    perform (requestFrame seq RequestKind.chConfig.code p) s = takeChConfig p s := rfl

theorem mode?_of_le {v : Nat} (h : v ≤ 1) : mode? v = some (if v = 0 then .oneShot else .cyclic) := by
  match v, h with
  | 0, _ => rfl
  | 1, _ => rfl

theorem mode?_none {v : Nat} (h : 1 < v) : mode? v = none := by
  match v, h with
  | _ + 2, _ => rfl

theorem safeLevel?_of_le {v : Nat} (h : v ≤ 1) : safeLevel? v = some (decide (v = 1)) := by
  match v, h with
  | 0, _ => rfl
  | 1, _ => rfl

theorem safeLevel?_none {v : Nat} (h : 1 < v) : safeLevel? v = none := by
  match v, h with
  | _ + 2, _ => rfl

theorem chConfig_fields {x tb mode safe : Nat} (hx : x < 256) (ht : tb < 256) (hm : mode < 256) (hs : safe < 256) :
    let p := le8 x ++ le8 tb ++ le8 mode ++ le8 safe
    p.length = 4 ∧ u8 p 0 = x ∧ u8 p 1 = tb ∧ u8 p 2 = mode ∧ u8 p 3 = safe :=
  ⟨rfl, toNat_ofNat_byte hx, toNat_ofNat_byte ht, toNat_ofNat_byte hm, toNat_ofNat_byte hs⟩

theorem takeChConfig_badArg {p : List Byte} (hlen : p.length = 4)
    (h : ¬(u8 p 0 ≤ 15 ∧ u8 p 1 ≤ 3 ∧ u8 p 2 ≤ 1 ∧ u8 p 3 ≤ 1)) (s : State) :
    takeChConfig p s = refuse .badArg s := by
  rw [takeChConfig, if_neg (not_not.mpr hlen)]
  split
  · next c tb mode safe hc ht hm hs =>
    refine absurd ⟨?_, ?_, ?_, ?_⟩ h
    · by_contra hlt
      exact absurd (hc.symm.trans (element?_none (by omega))) (by simp)
    · by_contra hlt
      exact absurd (ht.symm.trans (element?_none (by omega))) (by simp)
    · by_contra hlt
      exact absurd (hm.symm.trans (mode?_none (by omega))) (by simp)
    · by_contra hlt
      exact absurd (hs.symm.trans (safeLevel?_none (by omega))) (by simp)
  · rfl

theorem takeChConfig_inArg {p : List Byte} {i : Fin 16} {b : Fin 4} (hlen : p.length = 4) (hi : u8 p 0 = i.val)
    (hb : u8 p 1 = b.val) (hm : u8 p 2 ≤ 1) (hs : u8 p 3 ≤ 1) (s : State) :
    takeChConfig p s =
      checked [(s.chans[i].locked, .locked), (s.chans[i].state != .idle, .state)] s
        (accept .ok [] ((s.configChannel i b (if u8 p 2 = 0 then .oneShot else .cyclic)
          (decide (u8 p 3 = 1))).rebindPair i s)) := by
  rw [takeChConfig, if_neg (not_not.mpr hlen), hi, element?_val, hb, element?_val, mode?_of_le hm, safeLevel?_of_le hs]

/-- CH_CONFIG with its fields spelt from values in range. -/
theorem takeChConfig_spelt (i : Fin 16) (b : Fin 4) (mode : Fin 2) (safe : Bool) (s : State) :
    takeChConfig (le8 i.val ++ le8 b.val ++ le8 mode.val ++ flagByte safe) s =
      checked [(s.chans[i].locked, .locked), (s.chans[i].state != .idle, .state)] s
        (accept .ok [] ((s.configChannel i b (if mode = 0 then .oneShot else .cyclic) safe).rebindPair i s)) := by
  have hsafe : safe.toNat < 2 := safe.toNat_lt
  obtain ⟨hlen, h0, h1, h2, h3⟩ := chConfig_fields (x := i.val) (tb := b.val) (mode := mode.val) (safe := safe.toNat)
    (by omega) (by omega) (by omega) (by omega)
  have htake := takeChConfig_inArg hlen h0 h1 (by omega) (by omega) s
  have hmode : (if mode.val = 0 then Mode.oneShot else .cyclic) = if mode = 0 then .oneShot else .cyclic := by
    simp only [Fin.ext_iff, Fin.val_zero]
  have hread : decide (safe.toNat = 1) = safe := by cases safe <;> rfl
  rwa [h2, h3, hmode, hread] at htake

/-! ## The binding (R38) -/

theorem State.configChannel_get (c : Fin 16) (tb : Fin 4) (mode : Mode) (safe : Bool) (s : State) (x : Fin 16) :
    (s.configChannel c tb mode safe).chans[x] =
      if x = c then { s.chans[x] with tb := tb, mode := mode, safe := safe }
      else if isEven c && s.pairs[pairOf c].enabled && x == oddOf (pairOf c) then { s.chans[x] with tb := tb }
      else s.chans[x] := State.mapChans_get x _ s

/-- A channel that is not the even one of an enabled pair is configured alone. -/
theorem State.configChannel_alone {c : Fin 16} {s : State} (h : (isEven c && s.pairs[pairOf c].enabled) = false)
    (tb : Fin 4) (mode : Mode) (safe : Bool) :
    (s.configChannel c tb mode safe).rebindPair c s =
      { s with chans := s.chans.set c { s.chans[c] with tb := tb, mode := mode, safe := safe } } := by
  have hchans : (s.configChannel c tb mode safe).chans =
      s.chans.set c { s.chans[c] with tb := tb, mode := mode, safe := safe } := by
    refine Vector.ext fun n hn => ?_
    refine (s.configChannel_get c tb mode safe ⟨n, hn⟩).trans ?_
    rw [h, Bool.false_and, if_neg Bool.false_ne_true]
    refine Eq.trans ?_ (State.modChan_get c ⟨n, hn⟩ (fun ch => { ch with tb := tb, mode := mode, safe := safe }) s).symm
    split
    · next hc => rw [hc]
    · rfl
  have hpairs : (s.configChannel c tb mode safe).pairs = s.pairs := State.mapChans_pairs _ s
  unfold State.rebindPair
  dsimp only
  rw [hpairs, h, Bool.not_false, Bool.true_or, if_pos rfl, ← hchans]
  rfl

/-! ## The pair (R83, R84) -/

/-- What CH_CONFIG of its even channel makes of an enabled pair (R83, R84): `same` says that the binding does not
change, `before` and `after` are the states of the two timebases, `x` and `y` the basic signal on each. -/
def Pair.rebound (p : Pair) (same : Bool) (before after : TbState) (forced x y : Bool) : Pair :=
  if same = true then p
  else if after = .halted then (if before = .running then p.low else p)
  else if forced = true then p
  else if before = .halted then p.restart y
  else if x = y then p
  else p.edge y

theorem State.modPair_self (k : Fin 8) (s : State) : (s.modPair k fun _ => s.pairs[k]) = s := by
  simp [State.modPair]

theorem State.onRunningTb_eq_false_iff (s : State) (c : Fin 16) :
    s.onRunningTb c = false ↔ s.tbs[s.chans[c].tb].state = .halted := by
  unfold State.onRunningTb
  cases s.tbs[s.chans[c].tb].state <;> simp

theorem isEven_evenOf (k : Fin 8) : isEven (evenOf k) = true := (isEven_iff _).mpr (by rw [pairOf_evenOf])

theorem oddOf_ne_evenOf (k : Fin 8) : oddOf k ≠ evenOf k :=
  fun h => absurd (Fin.val_eq_of_eq h) (Nat.succ_ne_self _)

theorem State.restartPair_of_running {k : Fin 8} {s : State} (he : s.pairs[k].enabled = true)
    (hrun : s.onRunningTb (evenOf k) = true) : s.restartPair k =
      if s.chans[evenOf k].forced = true then s else s.modPair k fun p => p.restart (s.basicSignal (evenOf k)) := by
  simp only [State.restartPair, State.pairActs, he, hrun, Bool.true_and]
  cases s.chans[evenOf k].forced <;> rfl

theorem State.rebindPair_of_enabled {k : Fin 8} {s : State} (he : s.pairs[k].enabled = true) (old : State) :
    s.rebindPair (evenOf k) old = s.modPair k fun p =>
      p.rebound (s.chans[evenOf k].tb == old.chans[evenOf k].tb) old.tbs[old.chans[evenOf k].tb].state
        s.tbs[s.chans[evenOf k].tb].state s.chans[evenOf k].forced (old.basicSignal (evenOf k))
        (s.basicSignal (evenOf k)) := by
  have hrunning (u : State) : u.onRunningTb (evenOf k) = true ↔ u.tbs[u.chans[evenOf k].tb].state = .running :=
    decide_eq_true_iff
  have hself : s = s.modPair k fun p => p := (State.modPair_self k s).symm
  unfold State.rebindPair Pair.rebound
  simp only [pairOf_evenOf, isEven_evenOf, he, Bool.and_self, Bool.not_true, Bool.false_or, beq_iff_eq,
    Bool.not_eq_true', hrunning, State.onRunningTb_eq_false_iff, Bool.or_eq_true]
  split
  · exact hself
  · split
    · split
      · rfl
      · exact hself
    · next hrun =>
      have hon : s.onRunningTb (evenOf k) = true :=
        Bool.eq_true_of_not_eq_false fun h => hrun ((State.onRunningTb_eq_false_iff s _).mp h)
      rw [State.restartPair_of_running he hon]
      cases hforced : s.chans[evenOf k].forced with
      | true =>
        simp only [if_true, true_or, ite_self]
        exact hself
      | false =>
        simp only [Bool.false_eq_true, if_false, false_or]
        split
        · rfl
        · split
          · exact hself
          · rfl

/-- CH_CONFIG of the even channel of an enabled pair binds both its channels (R38). -/
theorem State.configChannel_even {k : Fin 8} {s : State} (he : s.pairs[k].enabled = true) (b : Fin 4) (mode : Mode)
    (safe : Bool) (x : Fin 16) :
    (s.configChannel (evenOf k) b mode safe).chans[x] =
      if x = evenOf k then { s.chans[evenOf k] with tb := b, mode := mode, safe := safe }
      else if x = oddOf k then { s.chans[oddOf k] with tb := b }
      else s.chans[x] := by
  rw [State.configChannel_get]
  simp only [pairOf_evenOf, isEven_evenOf, he, Bool.and_self, Bool.true_and, beq_iff_eq]
  split
  · next hx => rw [hx]
  · split
    · next hx => rw [hx]
    · rfl

/-- CH_CONFIG changes channels and pairs alone. -/
theorem State.configAndRebind_frame (c : Fin 16) (b : Fin 4) (mode : Mode) (safe : Bool) (s : State) :
    ∃ v w, (s.configChannel c b mode safe).rebindPair c s = { s with chans := v, pairs := w } := by
  obtain ⟨v, hv⟩ : ∃ v, s.configChannel c b mode safe = { s with chans := v } := ⟨_, rfl⟩
  obtain ⟨w, hw⟩ := State.rebindPair_frame c { s with chans := v } s
  exact ⟨v, w, hv ▸ hw⟩

/-- The state that CH_CONFIG of the even channel of an enabled pair leaves. -/
theorem State.configEven {k : Fin 8} {s t : State} (he : s.pairs[k].enabled = true) {b : Fin 4} {mode : Mode}
    {safe : Bool} (ht : t = (s.configChannel (evenOf k) b mode safe).rebindPair (evenOf k) s) :
    (∀ x : Fin 16, t.chans[x] =
      if x = evenOf k then { s.chans[evenOf k] with tb := b, mode := mode, safe := safe }
      else if x = oddOf k then { s.chans[oddOf k] with tb := b }
      else s.chans[x]) ∧
    (∀ j : Fin 8, j ≠ k → t.pairs[j] = s.pairs[j]) ∧
    t.pairs[k] = s.pairs[k].rebound (b == s.chans[evenOf k].tb) s.tbs[s.chans[evenOf k].tb].state s.tbs[b].state
      s.chans[evenOf k].forced (s.basicSignal (evenOf k)) (t.basicSignal (evenOf k)) := by
  have hchan (x : Fin 16) := State.configChannel_even he b mode safe x
  have hpairs : (s.configChannel (evenOf k) b mode safe).pairs = s.pairs := State.mapChans_pairs _ s
  have htbs : (s.configChannel (evenOf k) b mode safe).tbs = s.tbs := State.mapChans_tbs _ s
  generalize s.configChannel (evenOf k) b mode safe = u at *
  rw [State.rebindPair_of_enabled (s := u) (by rw [hpairs]; exact he)] at ht
  have heven := (hchan (evenOf k)).trans (if_pos rfl)
  have htb : u.chans[evenOf k].tb = b := congrArg Channel.tb heven
  have hforced : u.chans[evenOf k].forced = s.chans[evenOf k].forced := by rw [heven]
  have hsignal : t.basicSignal (evenOf k) = u.basicSignal (evenOf k) := by rw [ht]; rfl
  have hstate : u.tbs[u.chans[evenOf k].tb].state = s.tbs[b].state := by rw [htbs, getTb_congr s.tbs htb]
  refine ⟨fun x => ?_, fun j hj => ?_, ?_⟩
  · rw [ht]
    exact hchan x
  · rw [ht, State.modPair_get, if_neg hj, hpairs]
  · rw [hsignal, ht, State.modPair_get, if_pos rfl, hstate, htb, hforced, hpairs]

/-- Settles O17: the checks are those of R38, and what the new binding does to the pair is `Pair.rebound`. -/
theorem chConfigEffect : Obligations.ChConfigEffect := by
  refine ⟨fun s seq x tb mode safe hx ht hm hs => ?_, fun s seq k b mode safe => ?_⟩
  · intro c inRange hready
    obtain ⟨hlen, h0, h1, h2, h3⟩ := chConfig_fields hx ht hm hs
    refine ⟨fun hbad => refused_of_perform (k := .chConfig) hready ?_, fun i b hi hb hin => ?_⟩
    · exact takeChConfig_badArg hlen (by rw [h0, h1, h2, h3]; exact hbad) s.heard
    · obtain ⟨-, -, hmode, hsafe⟩ := hin
      have htake := takeChConfig_inArg hlen (h0.trans hi) (h1.trans hb) (by rw [h2]; exact hmode)
        (by rw [h3]; exact hsafe) s.heard
      rw [h2, h3] at htake
      obtain ⟨hlocked, hbusy, hidle⟩ := checked_idle (ch := s.heard.chans[i]) s.heard
        (accept .ok [] ((s.heard.configChannel i b (if mode = 0 then .oneShot else .cyclic)
          (decide (safe = 1))).rebindPair i s.heard))
      refine ⟨fun h => refused_of_perform (k := .chConfig) hready (htake.trans (hlocked h)),
        fun h h' => refused_of_perform (k := .chConfig) hready (htake.trans (hbusy h h')),
        fun h h' halone => accepted_of_perform (k := .chConfig) hready ((htake.trans (hidle h h')).trans ?_)⟩
      exact congrArg (accept .ok []) (State.configChannel_alone (s := s.heard) halone b _ _)
  · intro i c hready he hfree hidle
    obtain ⟨-, -, hdone⟩ := checked_idle (ch := s.heard.chans[i]) s.heard
      (accept .ok [] ((s.heard.configChannel i b (if mode = 0 then .oneShot else .cyclic) safe).rebindPair i s.heard))
    have htake := (takeChConfig_spelt i b mode safe s.heard).trans (hdone hfree hidle)
    obtain ⟨v, w, hframe⟩ := State.configAndRebind_frame i b (if mode = 0 then .oneShot else .cyclic) safe s.heard
    generalize ht : (s.heard.configChannel i b (if mode = 0 then .oneShot else .cyclic) safe).rebindPair i s.heard = t
      at htake hframe
    obtain ⟨hchans, hothers, hpair⟩ := State.configEven (s := s.heard) he ht.symm
    refine ⟨t, accepted_of_perform (k := .chConfig) hready htake, ?_, ?_, fun x hx hx' => ?_, hothers, ?_, ?_⟩
    · exact (hchans i).trans (if_pos rfl)
    · exact (hchans _).trans ((if_neg (oddOf_ne_evenOf k)).trans (if_pos rfl))
    · exact (hchans x).trans ((if_neg hx).trans (if_neg hx'))
    · rw [hframe]
    · replace hpair : t.pairs[k] = s.pairs[k].rebound (b == s.chans[i].tb) s.tbs[s.chans[i].tb].state s.tbs[b].state
          s.chans[i].forced (s.basicSignal i) (t.basicSignal i) := hpair
      rw [hpair, Pair.rebound]
      refine ⟨fun hsame => if_pos (beq_iff_eq.mpr hsame), fun hne hhalt => ?_, fun hne hrun hforced => ?_,
        fun hne hrun hunforced => ?_⟩
      · rw [if_neg fun h => hne (beq_iff_eq.mp h), if_pos hhalt]
      · rw [if_neg fun h => hne (beq_iff_eq.mp h), hrun, if_neg TbState.noConfusion, if_pos hforced]
      · rw [if_neg fun h => hne (beq_iff_eq.mp h), hrun, if_neg TbState.noConfusion, hunforced,
          if_neg Bool.false_ne_true]

end Sys2Proof.Machine

namespace Sys2Proof.Machine

/-! # O19 and O20: the requests to a set of channels -/

theorem perform_chStart (seq : Byte) (p : List Byte) (s : State) :
    perform (requestFrame seq RequestKind.chStart.code p) s = takeChStart p s := rfl

theorem perform_chPause (seq : Byte) (p : List Byte) (s : State) :
    perform (requestFrame seq RequestKind.chPause.code p) s = takeChPause p s := rfl

theorem perform_chResume (seq : Byte) (p : List Byte) (s : State) :
    perform (requestFrame seq RequestKind.chResume.code p) s = takeChResume p s := rfl

theorem perform_chFlush (seq : Byte) (p : List Byte) (s : State) :
    perform (requestFrame seq RequestKind.chFlush.code p) s = takeChFlush p s := rfl

theorem chSetAt_le16 (set : ChSet) : chSetAt (le16 set.toNat) 0 = set := by
  have hread : u16 (le16 set.toNat) 0 = set.toNat := toNat_ofNat_bytes set.isLt
  rw [chSetAt, hread, BitVec.ofNat_toNat, BitVec.setWidth_eq]

theorem State.anyOf_iff (s : State) (set : ChSet) (f : Channel → Bool) :
    s.anyOf set f = true ↔ ∃ x : Fin 16, set.has x = true ∧ f s.chans[x] = true := by
  unfold State.anyOf
  simp only [List.any_eq_true, List.mem_finRange, true_and, Bool.and_eq_true]

/-- A request to a set: the empty set, a locked channel anywhere in it, a channel in the wrong state, in this order
(R139). -/
theorem forSet_le16 (set : ChSet) (s : State) {bad : Channel → Bool} {unfit : Channel → Prop}
    (hbad : ∀ ch, bad ch = true ↔ unfit ch) (effect : ChSet → Reply × State) :
    let answer := forSet (le16 set.toNat) s bad effect
    let anyLocked := ∃ x : Fin 16, set.has x = true ∧ s.chans[x].locked = true
    let anyUnfit := ∃ x : Fin 16, set.has x = true ∧ unfit s.chans[x]
    (set = 0 → answer = refuse .badArg s) ∧
      (anyLocked → answer = refuse .locked s) ∧
      (¬anyLocked → anyUnfit → answer = refuse .state s) ∧
      (set ≠ 0 → ¬anyLocked → ¬anyUnfit → answer = effect set) := by
  intro answer anyLocked anyUnfit
  have hanswer : answer = checked
      [(set == 0, .badArg), (s.anyOf set Channel.locked, .locked), (s.anyOf set bad, .state)] s (effect set) := by
    simp only [answer, forSet, chSetAt_le16]
    rfl
  have hnonempty {P : Fin 16 → Prop} : (∃ x : Fin 16, set.has x = true ∧ P x) → set ≠ 0 := by
    rintro ⟨x, hx, -⟩ rfl
    exact absurd ((ChSet.has_zero x).symm.trans hx) (by decide)
  have hlockedIff : s.anyOf set Channel.locked = true ↔ anyLocked := s.anyOf_iff set _
  have hunfitIff : s.anyOf set bad = true ↔ anyUnfit :=
    (s.anyOf_iff set bad).trans (exists_congr fun x => and_congr_right fun _ => hbad s.chans[x])
  rw [hanswer]
  simp only [checked_cons, checked_nil, beq_iff_eq]
  refine ⟨fun hzero => if_pos hzero, fun hlocked => ?_, fun hfree hunfit => ?_, fun hset hfree hfit => ?_⟩
  · rw [if_neg (hnonempty hlocked), if_pos (hlockedIff.mpr hlocked)]
  · rw [if_neg (hnonempty hunfit), if_neg (hlockedIff.not.mpr hfree), if_pos (hunfitIff.mpr hunfit)]
  · rw [if_neg hset, if_neg (hlockedIff.not.mpr hfree), if_neg (hunfitIff.not.mpr hfit)]

/-- CH_PAUSE and CH_RESUME answer PENDING exactly when some channel of the set gains a pending item (R55, R56). -/
theorem pendingStatus_iff (s : State) (set : ChSet) {gains : Channel → Bool} {P : Channel → Prop}
    (hgains : ∀ ch, gains ch = true ↔ P ch) :
    let status := if s.anyOf set gains then Status.pending else .ok
    (status = .pending ↔ ∃ x : Fin 16, set.has x = true ∧ P s.chans[x]) ∧ (status = .pending ∨ status = .ok) := by
  have hany := s.anyOf_iff set gains
  simp only [hgains] at hany
  rw [← hany]
  cases s.anyOf set gains <;> simp

theorem unstartable_iff (ch : Channel) :
    (ch.state != .idle || ch.queue.isEmpty) = true ↔ ch.state ≠ .idle ∨ ch.queue = [] := by
  rw [Bool.or_eq_true, bne_iff_ne, List.isEmpty_iff]

theorem unresumable_iff (ch : Channel) : (!ch.resumable) = true ↔
    ch.state ≠ .paused ∧ ¬(ch.state = .running ∧ ch.pendingControl = .pause) := by
  rw [Bool.not_eq_true', ← Bool.not_eq_true, Channel.resumable, Bool.or_eq_true, Bool.and_eq_true, beq_iff_eq,
    beq_iff_eq, beq_iff_eq, not_or]

theorem gainsResume_iff (ch : Channel) : (ch.state == .paused && ch.pendingControl != .resume) = true ↔
    ch.state = .paused ∧ ch.pendingControl ≠ .resume := by
  rw [Bool.and_eq_true, beq_iff_eq, bne_iff_ne]

/-- Settles O19: the three requests are checked alike, and each then changes every channel of the set. -/
theorem chStartPauseAndResumeEffect : Obligations.ChStartPauseAndResumeEffect := by
  refine ⟨fun s seq set => ?_, fun s seq set => ?_⟩
  · intro c anyLocked unfit hready
    obtain ⟨hzero, hlocked, hunfit, hdone⟩ := forSet_le16 set s.heard unstartable_iff fun set =>
      accept .ok [] (s.heard.modSet set fun ch => { ch with state := .armed })
    exact ⟨fun h => refused_of_perform (k := .chStart) hready (hzero h),
      fun h => refused_of_perform (k := .chStart) hready (hlocked h),
      fun h h' => refused_of_perform (k := .chStart) hready (hunfit h h'),
      fun h h' h'' => accepted_of_perform (k := .chStart) hready (hdone h h' h'')⟩
  · intro anyLocked pause resume unpausable unresumable
    refine ⟨fun hready => ?_, fun hready => ?_⟩
    · obtain ⟨hzero, hlocked, hunfit, hdone⟩ := forSet_le16 set s.heard (bad := fun ch => ch.state != .running)
        (fun _ => bne_iff_ne) fun set =>
          accept (if s.heard.anyOf set (fun ch => ch.pendingControl != .pause) then .pending else .ok) []
            (s.heard.modSet set fun ch => { ch with pendingControl := .pause })
      obtain ⟨hpending, heither⟩ := pendingStatus_iff s.heard set (gains := fun ch => ch.pendingControl != .pause)
        fun _ => bne_iff_ne
      exact ⟨fun h => refused_of_perform (k := .chPause) hready (hzero h),
        fun h => refused_of_perform (k := .chPause) hready (hlocked h),
        fun h h' => refused_of_perform (k := .chPause) hready (hunfit h h'),
        fun h h' h'' => ⟨_, hpending, heither, accepted_of_perform (k := .chPause) hready (hdone h h' h'')⟩⟩
    · obtain ⟨hzero, hlocked, hunfit, hdone⟩ := forSet_le16 set s.heard unresumable_iff fun set =>
        accept (if s.heard.anyOf set (fun ch => ch.state == .paused && ch.pendingControl != .resume) then .pending
          else .ok) [] (s.heard.modSet set Channel.resume)
      obtain ⟨hpending, heither⟩ := pendingStatus_iff s.heard set gainsResume_iff
      exact ⟨fun h => refused_of_perform (k := .chResume) hready (hzero h),
        fun h => refused_of_perform (k := .chResume) hready (hlocked h),
        fun h h' => refused_of_perform (k := .chResume) hready (hunfit h h'),
        fun h h' h'' => ⟨_, hpending, heither, accepted_of_perform (k := .chResume) hready (hdone h h' h'')⟩⟩

/-! ## O20: channels flushed one after another

A flush of one channel neither reads nor changes what a flush of another touches, but for the points, the pool and the
report queue; these collect what each flush does. -/

/-! ### Arrivals withdrawn from one point -/

theorem Point.leave_fixed (cs : List (Fin 16)) (pt : Point) :
    let left := cs.foldl Point.leave pt
    left.members = pt.members ∧ left.generation = pt.generation ∧ left.timeout = pt.timeout := by
  induction cs generalizing pt with
  | nil => exact ⟨rfl, rfl, rfl⟩
  | cons c cs ih => exact ih (pt.leave c)

theorem Point.leave_arrived (cs : List (Fin 16)) (pt : Point) (x : Fin 16) :
    (cs.foldl Point.leave pt).arrived.has x = (pt.arrived.has x && !decide (x ∈ cs)) := by
  induction cs generalizing pt with
  | nil => simp
  | cons c cs ih =>
    rw [List.foldl_cons, ih, Point.leave, ChSet.has_drop, Bool.and_assoc]
    by_cases hx : x = c <;> simp [hx]

theorem Point.arrived_ne_zero_of_leave {cs : List (Fin 16)} {pt : Point}
    (h : (cs.foldl Point.leave pt).arrived ≠ 0) : pt.arrived ≠ 0 := by
  induction cs generalizing pt with
  | nil => exact h
  | cons c cs ih => exact ChSet.ne_zero_of_drop (ih h)

/-- The timer stops with the withdrawal of the last arrival, and only then (R71). -/
theorem Point.leave_timer (cs : List (Fin 16)) (pt : Point) :
    let left := cs.foldl Point.leave pt
    (cs ≠ [] → left.arrived = 0 → left.timer = none) ∧ (cs = [] ∨ left.arrived ≠ 0 → left.timer = pt.timer) := by
  induction cs generalizing pt with
  | nil => exact ⟨fun h => absurd rfl h, fun _ => rfl⟩
  | cons c cs ih =>
    obtain ⟨hstops, hkeeps⟩ := ih (pt.leave c)
    refine ⟨fun _ hempty => ?_, fun h => ?_⟩
    · by_cases hcs : cs = []
      · subst hcs
        exact if_pos hempty
      · exact hstops hcs hempty
    · have hleft := h.resolve_left (List.cons_ne_nil c cs)
      have hrest : (pt.leave c).arrived ≠ 0 := Point.arrived_ne_zero_of_leave hleft
      exact (hkeeps (.inr hleft)).trans (if_neg hrest)

/-! ### The channels -/

/-- The report a flush owes for a pending list with the notify mark (R57). -/
def ReportQueue.offerDropped (s : State) (q : ReportQueue) (x : Fin 16) : ReportQueue :=
  match s.chans[x].replacement.bind fun r => r.notify with
  | some old => q.offer (.superseded old (.segReplace x))
  | none => q

/-- `t` is `s` after a flush of each channel of the list. -/
structure FlushedBy (xs : List (Fin 16)) (s t : State) : Prop where
  chans : ∀ x : Fin 16, t.chans[x] = if x ∈ xs then s.chans[x].flushed else s.chans[x]
  free : t.free = s.free + (xs.map fun x => s.chans[x].holds).sum
  points : ∀ p : Fin 8, t.points[p] = (xs.filter fun x => s.chans[x].waitsAt p).foldl Point.leave s.points[p]
  reports : t.reports = xs.foldl (ReportQueue.offerDropped s) s.reports
  rest : ∃ v m w q n, t = { s with chans := v, free := m, points := w, reports := q, choice := n }

theorem flushChannel_flushedBy (c : Fin 16) (s : State) : FlushedBy [c] s (s.flushChannel c) := by
  rw [State.flushChannel_eq]
  refine ⟨fun x => ?_, ?_, fun p => ?_, ?_, ?_⟩
  · rw [State.offerIf_chans]
    refine (State.modChan_get _ _ _ _).trans ?_
    rw [State.withdraw_chans]
    by_cases hx : x = c
    · rw [if_pos hx, if_pos (List.mem_singleton.mpr hx), hx]
    · rw [if_neg hx, if_neg (List.mem_singleton.not.mpr hx)]
  · rw [State.offerIf_free]
    simp
  · rw [State.offerIf_points]
    refine (State.withdraw_points c s p).trans ?_
    split
    · next hw => rw [List.filter_singleton, hw]; rfl
    · next hw => rw [List.filter_singleton, Bool.eq_false_iff.mpr hw]; rfl
  · obtain ⟨w, hw⟩ := s.withdraw_frame c
    rw [hw, List.foldl_cons, List.foldl_nil, ReportQueue.offerDropped]
    cases s.chans[c].replacement.bind fun r => r.notify <;> rfl
  · obtain ⟨w, hw⟩ := s.withdraw_frame c
    rw [hw]
    cases s.chans[c].replacement.bind fun r => r.notify with
    | none => exact ⟨_, _, _, _, _, rfl⟩
    | some seq => exact ⟨_, _, _, _, _, rfl⟩

/-- Flushes of different channels add up. -/
theorem FlushedBy.cons {x : Fin 16} {xs : List (Fin 16)} {s t u : State} (h : FlushedBy [x] s t)
    (g : FlushedBy xs t u) (hx : x ∉ xs) : FlushedBy (x :: xs) s u := by
  have hsame {y : Fin 16} (hy : y ∈ xs) : t.chans[y] = s.chans[y] := by
    have hne : y ≠ x := fun h => hx (h ▸ hy)
    rw [h.chans, if_neg (List.mem_singleton.not.mpr hne)]
  refine ⟨fun y => ?_, ?_, fun p => ?_, ?_, ?_⟩
  · rw [g.chans]
    by_cases hy : y ∈ xs
    · rw [if_pos hy, if_pos (List.mem_cons_of_mem x hy), hsame hy]
    · rw [if_neg hy, h.chans]
      simp only [List.mem_cons, hy, or_false, List.not_mem_nil]
  · have hheld : (xs.map fun y => t.chans[y].holds) = xs.map fun y => s.chans[y].holds :=
      List.map_congr_left fun y hy => by rw [hsame hy]
    rw [g.free, h.free, hheld, List.map_cons, List.map_cons, List.map_nil, List.sum_cons, List.sum_cons, List.sum_nil]
    omega
  · have hwaits : (xs.filter fun y => t.chans[y].waitsAt p) = xs.filter fun y => s.chans[y].waitsAt p :=
      List.filter_congr fun y hy => by rw [hsame hy]
    rw [g.points, h.points, hwaits, ← List.foldl_append, ← List.filter_append, List.singleton_append]
  · rw [g.reports, h.reports]
    exact List.foldl_ext _ _ _ fun q y hy => by rw [ReportQueue.offerDropped, ReportQueue.offerDropped, hsame hy]
  · obtain ⟨_, _, _, _, _, ht⟩ := h.rest
    obtain ⟨v, m, w, q, n, hu⟩ := g.rest
    exact ⟨v, m, w, q, n, by rw [hu, ht]⟩

theorem forEach_flushedBy {xs : List (Fin 16)} (hnd : xs.Nodup) (s : State) :
    FlushedBy xs s (forEach xs State.flushChannel s) := by
  induction xs generalizing s with
  | nil => exact ⟨fun _ => (if_neg List.not_mem_nil).symm, rfl, fun _ => rfl, rfl, _, _, _, _, _, rfl⟩
  | cons x xs ih =>
    obtain ⟨hx, hnd⟩ := List.nodup_cons.mp hnd
    exact (flushChannel_flushedBy x s).cons (ih hnd _) hx

/-- The channels of a set flushed in any order are the channels flushed in some order. -/
theorem forEachInAnyOrder_flushedBy (set : ChSet) (s : State) : ∃ order, order.Perm set.toList ∧
    FlushedBy order s (forEachInAnyOrder set.toList State.flushChannel s) := by
  obtain ⟨order, n, hperm, heq⟩ := forEachInAnyOrder_eq set.toList State.flushChannel s
  have hnd : order.Nodup := hperm.nodup_iff.mpr ((List.nodup_finRange 16).filter _)
  obtain ⟨chans, free, points, reports, rest⟩ := forEach_flushedBy hnd { s with choice := n }
  exact ⟨order, hperm, heq ▸ ⟨chans, free, points, reports, rest⟩⟩

theorem sum_map_filter (l : List (Fin 16)) (p : Fin 16 → Bool) (f : Fin 16 → Nat) :
    ((l.filter p).map f).sum = (l.map fun x => if p x then f x else 0).sum := by
  induction l with
  | nil => rfl
  | cons x l ih => cases hx : p x <;> simp [hx, ih]

/-- Settles O20: the checks are those of every request to a set, and the flushes of its channels add up in any order. -/
theorem chFlushEffect : Obligations.ChFlushEffect := by
  intro s seq set c anyLocked hready
  obtain ⟨hzero, hlocked, -, hdone⟩ := forSet_le16 set s.heard (bad := fun _ => false) (unfit := fun _ => False)
    (fun _ => Bool.false_eq_true.to_iff) fun set =>
      accept .ok [] (forEachInAnyOrder set.toList State.flushChannel s.heard)
  refine ⟨fun h => refused_of_perform (k := .chFlush) hready (hzero h),
    fun h => refused_of_perform (k := .chFlush) hready (hlocked h), fun hset hfree => ?_⟩
  obtain ⟨order, hperm, chans, free, points, reports, v, m, w, q, n, hframe⟩ :=
    forEachInAnyOrder_flushedBy set s.heard
  have hmem (x : Fin 16) : x ∈ order ↔ set.has x = true := by
    rw [hperm.mem_iff, ChSet.toList, List.mem_filter]
    exact and_iff_right (List.mem_finRange x)
  have hfit : ¬∃ x : Fin 16, set.has x = true ∧ False := fun ⟨_, _, h⟩ => h
  refine ⟨forEachInAnyOrder set.toList State.flushChannel s.heard,
    accepted_of_perform (k := .chFlush) hready (hdone hset hfree hfit), fun x => ?_, ?_, fun p => ?_, fun p => ?_,
    ⟨order, hperm, reports⟩, ?_⟩
  · simp only [chans, hmem]
    rfl
  · have hsum : (order.map fun x => s.chans[x].holds).sum = (set.toList.map fun x => s.chans[x].holds).sum :=
      (hperm.map _).sum_eq
    exact free.trans (congrArg (s.free + ·) (hsum.trans (sum_map_filter _ _ _)))
  · obtain ⟨hmembers, hgen, htimeout⟩ := Point.leave_fixed (order.filter fun x => s.chans[x].waitsAt p) s.points[p]
    rw [points]
    refine ⟨hmembers, hgen, htimeout, fun x => (Point.leave_arrived _ _ x).trans ?_⟩
    congr 2
    rw [Bool.eq_iff_iff, decide_eq_true_iff, List.mem_filter, hmem, Bool.and_eq_true]
    rfl
  · intro left
    obtain ⟨hstops, hkeeps⟩ := Point.leave_timer (order.filter fun x => s.chans[x].waitsAt p) s.points[p]
    have hleft : left ↔ (order.filter fun x => s.chans[x].waitsAt p) ≠ [] := by
      rw [ne_eq, List.filter_eq_nil_iff]
      simp [left, hmem]
    rw [points]
    exact ⟨fun h => hstops (hleft.mp h), fun h => hkeeps (h.imp (fun h => not_not.mp fun hne => h (hleft.mpr hne)) id)⟩
  · rw [hframe]
    exact ⟨rfl, rfl, rfl, rfl, rfl, rfl, rfl⟩

end Sys2Proof.Machine

namespace Sys2Proof.Machine

/-! # O34: stages 3 and 4 -/

/-- L(k) of a RAMP with a sign for its direction (R47); no period after the last has one. -/
theorem rampLevel_eq {start target n k : Nat} (hk : k ≤ n) : (rampLevel start target n k : Int) =
    start + Int.sign ((target : Int) - start) * (((target : Int) - start).natAbs * k / n : Nat) := by
  have hle (d : Nat) : d * k / n ≤ d := Nat.div_le_of_le_mul (Nat.mul_comm d n ▸ Nat.mul_le_mul_left d hk)
  unfold rampLevel
  rcases Nat.lt_trichotomy start target with hup | heq | hdown
  · have hsign : Int.sign ((target : Int) - start) = 1 := Int.sign_eq_one_of_pos (by omega)
    have habs : ((target : Int) - start).natAbs = target - start := by omega
    rw [if_pos hup.le, hsign, habs, one_mul, Nat.cast_add]
  · subst heq
    simp
  · have hsign : Int.sign ((target : Int) - start) = -1 := Int.sign_eq_neg_one_of_neg (by omega)
    have habs : ((target : Int) - start).natAbs = start - target := by omega
    have hbound : (start - target) * k / n ≤ start := (hle _).trans (Nat.sub_le _ _)
    rw [if_neg (Nat.not_le.mpr hdown), hsign, habs, Nat.cast_sub hbound]
    ring

theorem State.modChan_congr {s : State} {c : Fin 16} {f g : Channel → Channel} (h : f s.chans[c] = g s.chans[c]) :
    s.modChan c f = s.modChan c g := by
  rw [State.modChan, State.modChan, h]

/-! ## How a head stands at stage 4 -/

/-- The two kinds of segment that last a number of periods: HOLD and RAMP (R46, R47). -/
def Segment.Lasts (g : Segment) (n : Nat) : Prop := g = .hold n ∨ ∃ target, g = .ramp target n

theorem Channel.headStep_of_lasts {ch : Channel} {g : Segment} {rest : List Segment} {n : Nat}
    (hq : ch.queue = g :: rest) (hg : g.Lasts n) (count : BitVec 32) : ch.headStep count =
      if ch.run.k = 0 then .notStarted else if ch.run.k < n then .nextPeriod else .completes := by
  rcases hg with rfl | ⟨target, rfl⟩ <;> simp only [Channel.headStep, hq]

theorem Channel.headStep_of_sync {ch : Channel} {p : Fin 8} {rest : List Segment} (hq : ch.queue = .sync p :: rest)
    (count : BitVec 32) : ch.headStep count =
      if ch.run.released then (if ch.stamp = count then .kept else .completes) else .notStarted := by
  simp only [Channel.headStep, hq]

theorem Channel.headStep_of_set {ch : Channel} {l : Nat} {rest : List Segment} (hq : ch.queue = .set l :: rest)
    (count : BitVec 32) : ch.headStep count = .notStarted := by
  simp only [Channel.headStep, hq]

theorem Channel.headStep_of_note {ch : Channel} {tag : Byte} {rest : List Segment}
    (hq : ch.queue = .note tag :: rest) (count : BitVec 32) : ch.headStep count = .notStarted := by
  simp only [Channel.headStep, hq]

theorem Channel.headStep_of_empty {ch : Channel} (hq : ch.queue = []) (count : BitVec 32) :
    ch.headStep count = .notStarted := by
  simp only [Channel.headStep, hq]

theorem Channel.headStep_lasting_next {ch : Channel} {g : Segment} {rest : List Segment} {n : Nat}
    (hq : ch.queue = g :: rest) (hg : g.Lasts n) (hk : 1 ≤ ch.run.k) (hlt : ch.run.k < n) (count : BitVec 32) :
    ch.headStep count = .nextPeriod := by
  rw [Channel.headStep_of_lasts hq hg, if_neg (Nat.one_le_iff_ne_zero.mp hk), if_pos hlt]

/-- A head completes after its last period, a SYNC at the first boundary after its release (R46, R47, R49). -/
theorem Channel.headStep_completes {ch : Channel} {g : Segment} {rest : List Segment} {count : BitVec 32}
    (hq : ch.queue = g :: rest)
    (h : (∃ n, g.Lasts n ∧ 1 ≤ ch.run.k ∧ n ≤ ch.run.k) ∨
      ∃ p, g = .sync p ∧ ch.run.released = true ∧ ch.stamp ≠ count) : ch.headStep count = .completes := by
  rcases h with ⟨n, hg, hk, hn⟩ | ⟨p, rfl, hreleased, hstamp⟩
  · rw [Channel.headStep_of_lasts hq hg, if_neg (Nat.one_le_iff_ne_zero.mp hk), if_neg (Nat.not_lt.mpr hn)]
  · rw [Channel.headStep_of_sync hq, if_pos hreleased, if_neg hstamp]

theorem Channel.headStep_notStarted {ch : Channel} {g : Segment} {rest : List Segment} (hq : ch.queue = g :: rest)
    (h : (∃ n, g.Lasts n ∧ ch.run.k = 0) ∨ (∃ p, g = .sync p ∧ ch.run.released = false) ∨
      (∃ l, g = .set l) ∨ ∃ tag, g = .note tag) (count : BitVec 32) : ch.headStep count = .notStarted := by
  rcases h with ⟨n, hg, hk⟩ | ⟨p, rfl, hreleased⟩ | ⟨l, rfl⟩ | ⟨tag, rfl⟩
  · rw [Channel.headStep_of_lasts hq hg, if_pos hk]
  · rw [Channel.headStep_of_sync hq, if_neg (Bool.eq_false_iff.mp hreleased)]
  · exact Channel.headStep_of_set hq count
  · exact Channel.headStep_of_note hq count

/-! ## Stage 4 by how the head stands -/

section advance

variable {s : State} {c : Fin 16}

theorem State.stageAdvance_of_not_running (h : s.chans[c].state ≠ .running) : s.stageAdvance c = s := by
  rw [State.stageAdvance, if_pos h]

theorem State.stageAdvance_of_notStarted (h : s.chans[c].state = .running)
    (hstep : s.chans[c].headStep s.tbs[s.chans[c].tb].periodCount = .notStarted) :
    s.stageAdvance c = State.startHeads c s.chans[c].queue.length s := by
  simp only [State.stageAdvance, h, ne_eq, not_true_eq_false, if_false, hstep]

theorem State.stageAdvance_of_nextPeriod (h : s.chans[c].state = .running)
    (hstep : s.chans[c].headStep s.tbs[s.chans[c].tb].periodCount = .nextPeriod) :
    s.stageAdvance c = s.modChan c Channel.nextPeriod := by
  simp only [State.stageAdvance, h, ne_eq, not_true_eq_false, if_false, hstep]

theorem State.stageAdvance_of_completes (h : s.chans[c].state = .running)
    (hstep : s.chans[c].headStep s.tbs[s.chans[c].tb].periodCount = .completes) :
    s.stageAdvance c = State.startHeads c (s.chans[c].queue.length - 1) (s.completeHead c) := by
  simp only [State.stageAdvance, h, ne_eq, not_true_eq_false, if_false, hstep]

theorem State.stageAdvance_of_kept (h : s.chans[c].state = .running)
    (hstep : s.chans[c].headStep s.tbs[s.chans[c].tb].periodCount = .kept) : s.stageAdvance c = s := by
  simp only [State.stageAdvance, h, ne_eq, not_true_eq_false, if_false, hstep]

/-- A HOLD counts a period and keeps the level (R46). -/
theorem State.stageAdvance_hold {n : Nat} {rest : List Segment} (h : s.chans[c].state = .running)
    (hq : s.chans[c].queue = .hold n :: rest) (hk : 1 ≤ s.chans[c].run.k) (hlt : s.chans[c].run.k < n) :
    s.stageAdvance c = s.modChan c fun ch => { ch with run := { ch.run with k := ch.run.k + 1 } } := by
  rw [State.stageAdvance_of_nextPeriod h (Channel.headStep_lasting_next hq (.inl rfl) hk hlt _)]
  refine State.modChan_congr ?_
  simp only [Channel.nextPeriod, hq]

/-- A RAMP counts a period and takes the level of that period (R47). -/
theorem State.stageAdvance_ramp {target n : Nat} {rest : List Segment} (h : s.chans[c].state = .running)
    (hq : s.chans[c].queue = .ramp target n :: rest) (hk : 1 ≤ s.chans[c].run.k) (hlt : s.chans[c].run.k < n) :
    s.stageAdvance c = s.modChan c fun ch => { ch with
      run := { ch.run with k := ch.run.k + 1 }
      level := rampLevel s.chans[c].run.start target n (s.chans[c].run.k + 1) } := by
  rw [State.stageAdvance_of_nextPeriod h (Channel.headStep_lasting_next hq (.inr ⟨target, rfl⟩) hk hlt _)]
  refine State.modChan_congr ?_
  simp only [Channel.nextPeriod, hq]

/-! ## Starting heads by the kind of the head -/

theorem State.startHeads_empty (hq : s.chans[c].queue = []) (n : Nat) : State.startHeads c n s = s.endProgram c := by
  cases n with
  | zero => simp only [State.startHeads, hq, List.isEmpty_nil, if_true]
  | succ n => simp only [State.startHeads, hq]

variable {rest : List Segment} (n : Nat)

theorem State.startHeads_bound {g : Segment} (hq : s.chans[c].queue = g :: rest) : State.startHeads c 0 s = s := by
  simp only [State.startHeads, hq, List.isEmpty_cons, Bool.false_eq_true, if_false]

theorem State.startHeads_set {l : Nat} (hq : s.chans[c].queue = .set l :: rest) :
    State.startHeads c (n + 1) s =
      State.startHeads c n ((s.modChan c fun ch => { ch with level := l }).completeHead c) := by
  simp only [State.startHeads, hq]

theorem State.startHeads_note {tag : Byte} (hq : s.chans[c].queue = .note tag :: rest) :
    State.startHeads c (n + 1) s =
      State.startHeads c n ((s.offer (.note c tag s.tbs[s.chans[c].tb].periodCount)).completeHead c) := by
  simp only [State.startHeads, hq]

theorem State.startHeads_hold {N : Nat} (hq : s.chans[c].queue = .hold N :: rest) :
    State.startHeads c (n + 1) s = s.modChan c fun ch => { ch with run := { ch.run with k := 1 } } := by
  simp only [State.startHeads, hq]

theorem State.startHeads_ramp {target N : Nat} (hq : s.chans[c].queue = .ramp target N :: rest) :
    State.startHeads c (n + 1) s = s.modChan c fun ch => { ch with
      run := { ch.run with k := 1, start := s.chans[c].level }, level := rampLevel s.chans[c].level target N 1 } := by
  simp only [State.startHeads, hq]
  exact State.modChan_congr rfl

theorem State.startHeads_sync {p : Fin 8} (hq : s.chans[c].queue = .sync p :: rest) :
    State.startHeads c (n + 1) s =
      if s.points[p].members.has c then s.arrive c p
      else State.startHeads c n ((s.offer (.syncSkipped c p)).completeHead c) := by
  simp only [State.startHeads, hq]

/-! ## Completing a head -/

theorem State.completeHead_oneShot {g : Segment} (hq : s.chans[c].queue = g :: rest)
    (hmode : s.chans[c].mode = .oneShot) : s.completeHead c =
      { s.modChan c fun ch => { ch with queue := rest, run := .clear } with free := s.free + 1 } := by
  simp only [State.completeHead, hq, hmode]

theorem State.completeHead_cyclic {g : Segment} (hq : s.chans[c].queue = g :: rest)
    (hmode : s.chans[c].mode = .cyclic) :
    s.completeHead c = s.modChan c fun ch => { ch with queue := rest ++ [g], run := .clear } := by
  simp only [State.completeHead, hq, hmode]

end advance

/-- Settles O34: stage 4 by how the head stands, the start of a head by its kind, its completion by the mode. -/
theorem programAdvance : Obligations.ProgramAdvance := by
  intro s c rest ch count head level
  refine ⟨State.stageAdvance_of_not_running, fun hrun => ⟨fun n => State.stageAdvance_hold hrun, ?_, ?_, ?_, ?_, ?_⟩,
    fun n hq => State.startHeads_empty hq n, fun g => State.startHeads_bound, fun l n => State.startHeads_set n,
    fun tag n => State.startHeads_note n, fun N n => State.startHeads_hold n, ?_, ?_, ?_,
    fun g hq => ⟨State.completeHead_oneShot hq, State.completeHead_cyclic hq⟩, ?_⟩
  · intro target n hq hk hlt
    exact ⟨_, rampLevel_eq hlt, State.stageAdvance_ramp hrun hq hk hlt⟩
  · intro p hq hreleased hstamp
    refine State.stageAdvance_of_kept hrun ?_
    rw [Channel.headStep_of_sync hq, if_pos hreleased, if_pos hstamp]
  · intro g hq hdone
    rw [State.stageAdvance_of_completes hrun (Channel.headStep_completes hq hdone), hq]
    rfl
  · intro g hq hfresh
    rw [State.stageAdvance_of_notStarted hrun (Channel.headStep_notStarted hq hfresh _), hq]
    rfl
  · intro hq
    rw [State.stageAdvance_of_notStarted hrun (Channel.headStep_of_empty hq _)]
    exact State.startHeads_empty hq _
  · intro target N n hq hN
    exact ⟨_, rampLevel_eq hN, State.startHeads_ramp n hq⟩
  · intro p n hq hmember
    rw [State.startHeads_sync n hq, if_pos hmember]
  · intro p n hq hforeign
    rw [State.startHeads_sync n hq, hforeign, if_neg Bool.false_ne_true]
  · exact State.modChan_congr (Channel.applyControl_eq _)

end Sys2Proof.Machine

namespace Sys2Proof.Machine

/-! # O60: stages 1, 2, 5 and 6 -/

/-- A withdrawal as one change of the points. -/
theorem State.withdraw_eq (c : Fin 16) (s : State) : s.withdraw c = { s with
    points := Vector.ofFn fun p => if s.chans[c].waitsAt p = true then s.points[p].leave c else s.points[p] } := by
  have hpoints : (s.withdraw c).points =
      Vector.ofFn fun p => if s.chans[c].waitsAt p = true then s.points[p].leave c else s.points[p] :=
    Vector.ext fun i hi => by
      rw [Vector.getElem_ofFn]
      exact s.withdraw_points c ⟨i, hi⟩
  obtain ⟨v, hv⟩ := s.withdraw_frame c
  rw [← hpoints, hv]

theorem State.stageLevel_of_none {s : State} {c : Fin 16} (h : s.chans[c].pendingLevel = none) :
    s.stageLevel c = s := by
  simp only [State.stageLevel, h]

theorem State.stageLevel_of_some {s : State} {c : Fin 16} {p : PendingLevel}
    (h : s.chans[c].pendingLevel = some p) : s.stageLevel c =
      (s.modChan c fun ch => { ch with level := p.level, pendingLevel := none }).offerIf p.notify
        fun seq => .applied seq (.chLevel c) := by
  simp only [State.stageLevel, h]

theorem State.stageReplacement_of_none {s : State} {c : Fin 16} (h : s.chans[c].replacement = none) :
    s.stageReplacement c = s := by
  simp only [State.stageReplacement, h]

theorem State.covered_iff (s : State) (c : Fin 16) : s.covered c = true ↔
    ∃ f : Fin 4, s.faults[f].latched = true ∧ s.faults[f].action ≠ .none ∧
      s.faults[f].chans.has (s.testedChannel c) = true := by
  simp only [State.covered, State.covers, List.any_eq_true, List.mem_finRange, true_and, Bool.and_eq_true,
    bne_iff_ne, and_assoc]

/-- Stage 6 lifts the forced flag of a channel that nothing covers, and does nothing else (R52). -/
theorem State.stageUnforce_eq (c : Fin 16) (s : State) : s.stageUnforce c =
    if s.covered c = true ∨ s.chans[c].forced = false then s
    else s.modChan c fun ch => { ch with forced := false } := by
  unfold State.stageUnforce
  cases s.chans[c].forced <;> cases s.covered c <;> rfl

/-- Settles O60: each stage has its equations, and a withdrawal is read off point by point. -/
theorem pendingLevelListDutyAndForcedFlag : Obligations.PendingLevelListDutyAndForcedFlag := by
  intro s c ch covered
  have hcovered : s.covered c = true ↔ covered := s.covered_iff c
  refine ⟨State.stageLevel_of_none, fun p hp => ?_, State.stageReplacement_of_none, fun r hr => ?_, rfl, fun h => ?_,
    fun hnot hforced => ?_⟩
  · exact State.stageLevel_of_some hp
  · intro t
    have happlied : { (s.withdraw c).modChan c fun ch => ch.applyList r.segments with
        free := s.free + s.chans[c].queue.length } = t := by
      rw [State.withdraw_eq]
      rfl
    rw [State.stageReplacement_of_some hr, happlied]
    rfl
  · rw [State.stageUnforce_eq, if_pos (h.imp_left hcovered.mpr)]
  · have huncovered : ¬(s.covered c = true ∨ s.chans[c].forced = false) :=
      not_or.mpr ⟨fun h => hnot (hcovered.mp h), fun h => Bool.false_ne_true (h.symm.trans hforced)⟩
    rw [State.stageUnforce_eq, if_neg huncovered]
    rfl

end Sys2Proof.Machine

namespace Sys2Proof.Machine

/-! # O35: rendezvous points -/

/-! ## Releases (R49, R67, R69) -/

/-- A point releases a set of channels: what the point keeps and what each channel of the set becomes. -/
theorem State.releaseAt_eq (p : Fin 8) (set : ChSet) (s : State) :
    (s.releaseChannels set).modPoint p Point.afterRelease = { s with
      points := s.points.set p s.points[p].afterRelease
      chans := Vector.ofFn fun x =>
        if set.has x then s.chans[x].release s.tbs[s.chans[x].tb].periodCount else s.chans[x] } := rfl

theorem State.releaseAt_point (p : Fin 8) (set : ChSet) (s : State) :
    ((s.releaseChannels set).modPoint p Point.afterRelease).points[p] = s.points[p].afterRelease := by
  rw [State.modPoint_get, if_pos rfl, State.releaseChannels_points]

/-- The report of a complete release carries the generation after it, and the members (R67). -/
theorem State.completeRelease_eq (p : Fin 8) (s : State) : s.completeRelease p =
    ((s.releaseChannels s.points[p].members).modPoint p Point.afterRelease).offer
      (.syncRelease p (s.points[p].generation + 1) s.points[p].members) := by
  simp only [State.completeRelease, State.releaseAt_point, Point.afterRelease]

/-- The report of an expiry carries the generation after it, and the set that had arrived (R69). -/
theorem State.expireGathering_eq (p : Fin 8) (s : State) : s.expireGathering p =
    ((s.releaseChannels s.points[p].arrived).modPoint p Point.afterRelease).offer
      (.syncTimeout p (s.points[p].generation + 1) s.points[p].arrived
        (s.points[p].members &&& ~~~s.points[p].arrived)) := by
  simp only [State.expireGathering, State.releaseAt_point, Point.afterRelease]

/-! ## Arrivals (R48, R65) -/

theorem State.arrive_of_incomplete {c : Fin 16} {p : Fin 8} {s : State}
    (h : s.points[p].arrived.add c ≠ s.points[p].members) : s.arrive c p =
      (s.modPoint p fun pt => pt.join c).modChan c fun ch => { ch with state := .waiting } := if_neg h

theorem State.arrive_of_complete {c : Fin 16} {p : Fin 8} {s : State}
    (h : s.points[p].arrived.add c = s.points[p].members) : s.arrive c p = s.completeRelease p := if_pos h

/-! ## A timer's part of the tick, taken by its own row (log entries 3 and 4) -/

theorem State.takeExpiry_of_due {m : MsTimer} {s : State} (hdue : s.due m = true) (hfresh : m ∉ s.msDone) :
    s.takeExpiry m = { s.expire m with msDone := m :: s.msDone } := by
  have huntaken : s.untaken m = true := by simpa [State.untaken] using hfresh
  rw [State.takeExpiry, hdue, huntaken, ← State.expire_msDone m s]
  rfl

theorem State.takeExpiry_of_not_due {m : MsTimer} {s : State} (hdue : s.due m = false) : s.takeExpiry m = s := by
  rw [State.takeExpiry, hdue, Bool.false_and, if_neg Bool.false_ne_true]

/-- Settles O35: an arrival joins or completes the set, and both ends of a gathering are one release
(`releaseAt_eq`). -/
theorem arrivalReleaseAndExpiry : Obligations.ArrivalReleaseAndExpiry := by
  refine ⟨fun s c p => ⟨State.arrive_of_incomplete, fun hfull => ?_⟩,
    fun s p hheld hs => ⟨fun e htimer hlimit hfresh => ?_, fun hstopped => ?_⟩⟩
  · rw [State.arrive_of_complete hfull, State.completeRelease_eq, State.releaseAt_eq]
    rfl
  · have hdue : s.due (.gather p) = true := by
      rw [State.due_gather, htimer]
      exact decide_eq_true hlimit
    refine (State.event_of_running hheld _).trans ?_
    rw [State.takeExpiry_of_due hdue hfresh, State.expire, State.expireGathering_eq, State.releaseAt_eq]
    rfl
  · have hnot : s.due (.gather p) = false := by
      rw [State.due_gather, hstopped]
      rfl
    exact State.event_of_settled hheld (State.takeExpiry_of_not_due hnot) hs

/-! # O22: RP_DEFINE -/

theorem perform_rpDefine (seq : Byte) (p : List Byte) (s : State) :
    perform (requestFrame seq RequestKind.rpDefine.code p) s = takeRpDefine p s := rfl

theorem rpDefine_fields {n timeout : Nat} (members : ChSet) (hn : n < 256) (ht : timeout < 65536) :
    let p := le8 n ++ le16 members.toNat ++ le16 timeout
    p.length = 5 ∧ u8 p 0 = n ∧ chSetAt p 1 = members ∧ u16 p 3 = timeout :=
  ⟨rfl, toNat_ofNat_byte hn, chSetAt_le16 members, toNat_ofNat_bytes ht⟩

theorem takeRpDefine_badLength {p : List Byte} (hlen : p.length ≠ 5) (s : State) :
    takeRpDefine p s = refuse .badLength s := if_pos hlen

theorem takeRpDefine_badArg {p : List Byte} (hlen : p.length = 5) (h : 7 < u8 p 0 ∨ 60000 < u16 p 3) (s : State) :
    takeRpDefine p s = refuse .badArg s := by
  rw [takeRpDefine, if_neg (not_not.mpr hlen)]
  split
  · next i timeout hi ht =>
    rcases h with h | h
    · exact absurd (hi.symm.trans (element?_none h)) (by simp)
    · exact absurd (ht.symm.trans (within?_none (by omega))) (by simp)
  · rfl

/-- RP_DEFINE with its fields in range is refused where a gathering is in progress (R64, step 3). -/
theorem takeRpDefine_inArg {p : List Byte} {i : Fin 8} (hlen : p.length = 5) (hi : u8 p 0 = i.val)
    (ht : u16 p 3 ≤ 60000) (s : State) :
    takeRpDefine p s =
      if s.points[i].arrived ≠ 0 then refuse .state s
      else accept .ok [] (s.modPoint i fun pt => { pt with members := chSetAt p 1, timeout := u16 p 3 }) := by
  rw [takeRpDefine, if_neg (not_not.mpr hlen), hi, element?_val, within?_of ⟨Nat.zero_le _, ht⟩]

/-- Settles O22: the fields are read back from the payload, and the checks are those of R64. -/
theorem rpDefineEffect : Obligations.RpDefineEffect := by
  refine ⟨fun s seq p hlen hready => refused_of_perform (k := .rpDefine) hready (takeRpDefine_badLength hlen _), ?_⟩
  intro s seq n members timeout hn ht c hready
  obtain ⟨hlen, hpoint, hmembers, htimeout⟩ := rpDefine_fields members hn ht
  refine ⟨fun hbad => refused_of_perform (k := .rpDefine) hready ?_, fun p hp hle => ?_⟩
  · rw [perform_rpDefine]
    exact takeRpDefine_badArg hlen (by rwa [hpoint, htimeout]) s.heard
  · have htake := takeRpDefine_inArg hlen (hpoint.trans hp) (htimeout.trans_le hle) s.heard
    rw [hmembers, htimeout, State.heard_points] at htake
    exact ⟨fun hbusy => refused_of_perform (k := .rpDefine) hready (htake.trans (if_pos hbusy)),
      fun hfree => accepted_of_perform (k := .rpDefine) hready (htake.trans (if_neg (not_not.mpr hfree)))⟩

end Sys2Proof.Machine

namespace Sys2Proof.Machine

/-! # O53 and O54: what the pair signals and the coverage rest on

Most operations leave alone what Laws 5, 11 and 12 speak of: they change no pair, force and stop no channel, and bind and
lock none (`SameStanding`). What is left is the pair logic, the forcing and stopping of channels, and the requests that
bind or lock. -/

/-- A channel with nothing to do: IDLE, no queue, no pending list, no pending level (R79). -/
def Channel.Vacant (ch : Channel) : Prop :=
  ch.state = .idle ∧ ch.queue = [] ∧ ch.replacement = none ∧ ch.pendingLevel = none

/-- A channel keeps its lock, its binding and whether it is FAULTED; it is not newly forced, and locked and vacant it
stays vacant. -/
structure Channel.StandsAlike (ch new : Channel) : Prop where
  locked : new.locked = ch.locked
  tb : new.tb = ch.tb
  unforced : ch.forced = false → new.forced = false
  faulted : new.state = .faulted ↔ ch.state = .faulted
  vacant : ch.locked = true → ch.Vacant → new.Vacant

namespace Channel.StandsAlike

variable {ch new last : Channel}

theorem refl (ch : Channel) : ch.StandsAlike ch := ⟨rfl, rfl, id, .rfl, fun _ h => h⟩

theorem trans (h : ch.StandsAlike new) (g : new.StandsAlike last) : ch.StandsAlike last where
  locked := g.locked.trans h.locked
  tb := g.tb.trans h.tb
  unforced hf := g.unforced (h.unforced hf)
  faulted := g.faulted.trans h.faulted
  vacant hl hv := g.vacant (h.locked.trans hl) (h.vacant hl hv)

/-- The lists of a channel that is not locked are free to change. -/
theorem of_unlocked (h : ch.locked = false) (hlocked : new.locked = ch.locked) (htb : new.tb = ch.tb)
    (hforced : new.forced = ch.forced) (hfaulted : new.state = .faulted ↔ ch.state = .faulted) :
    ch.StandsAlike new where
  locked := hlocked
  tb := htb
  unforced hf := hforced.trans hf
  faulted := hfaulted
  vacant hl := absurd (h.symm.trans hl) Bool.false_ne_true

end Channel.StandsAlike

theorem Channel.standsAlike_release (ch : Channel) (n : BitVec 32) : ch.StandsAlike (ch.release n) := by
  refine ⟨rfl, rfl, id, ?_, fun _ ⟨hidle, hrest⟩ => ⟨?_, hrest⟩⟩
  · unfold Channel.release
    by_cases hw : ch.state = .waiting <;> simp [hw]
  · simp [Channel.release, hidle]

/-! ## Coverage (R103) -/

section coverage

variable {s t : State}

/-- Coverage is a matter of the fault sources and of which pairs are enabled. -/
theorem State.covers_congr (hf : t.faults = s.faults) (he : ∀ k : Fin 8, t.pairs[k].enabled = s.pairs[k].enabled)
    (f : Fin 4) (c : Fin 16) : t.covers f c = s.covers f c := by
  simp only [State.covers, State.testedChannel, hf, he]

theorem State.covered_congr (h : ∀ f c, t.covers f c = s.covers f c) (c : Fin 16) : t.covered c = s.covered c := by
  simp only [State.covered, h]

/-- A source that covers a channel in neither state may change its action. -/
theorem State.coveredByStop_congr (h : ∀ f c, t.covers f c = s.covers f c)
    (ha : ∀ (f : Fin 4) c, s.covers f c = true → t.faults[f].action = s.faults[f].action) (c : Fin 16) :
    t.coveredByStop c = s.coveredByStop c := by
  have hone (f : Fin 4) : (t.covers f c && t.faults[f].action == .stop) =
      (s.covers f c && s.faults[f].action == .stop) := by
    rw [h]
    cases hc : s.covers f c with
    | false => rfl
    | true => rw [ha f c hc]
  simp only [State.coveredByStop, hone]

end coverage

/-! ## Operations that change nothing of it -/

/-- No pair changes or stops acting, no channel comes to be covered or uncovered, and every channel stands as before; a
forced flag may be lifted where nothing covers the channel (R52). -/
structure SameStanding (s t : State) : Prop where
  running : ∀ b : Fin 4, s.tbs[b].state = .running → t.tbs[b].state = .running
  pairs : t.pairs = s.pairs
  covered : ∀ c, t.covered c = s.covered c
  coveredByStop : ∀ c, t.coveredByStop c = s.coveredByStop c
  chans : ∀ c : Fin 16, s.chans[c].StandsAlike t.chans[c]
  forced : ∀ c : Fin 16, s.covered c = true → s.chans[c].forced = true → t.chans[c].forced = true

namespace SameStanding

variable {s t u : State}

theorem trans (h : SameStanding s t) (g : SameStanding t u) : SameStanding s u where
  running b hb := g.running b (h.running b hb)
  pairs := g.pairs.trans h.pairs
  covered c := (g.covered c).trans (h.covered c)
  coveredByStop c := (g.coveredByStop c).trans (h.coveredByStop c)
  chans c := (h.chans c).trans (g.chans c)
  forced c hc hf := g.forced c ((h.covered c).trans hc) (h.forced c hc hf)

/-- The pairs and the sources are the same, and each channel keeps its forced flag too. -/
theorem of_chans (hr : ∀ b : Fin 4, s.tbs[b].state = .running → t.tbs[b].state = .running) (hp : t.pairs = s.pairs)
    (hf : t.faults = s.faults) (hc : ∀ c : Fin 16, s.chans[c].StandsAlike t.chans[c])
    (hforced : ∀ c : Fin 16, t.chans[c].forced = s.chans[c].forced) : SameStanding s t where
  running := hr
  pairs := hp
  covered := State.covered_congr (State.covers_congr hf fun k => by rw [hp])
  coveredByStop := State.coveredByStop_congr (State.covers_congr hf fun k => by rw [hp]) fun f _ _ => by rw [hf]
  chans := hc
  forced c _ h := (hforced c).trans h

theorem of_eq (ht : t.tbs = s.tbs) (hc : t.chans = s.chans) (hp : t.pairs = s.pairs) (hf : t.faults = s.faults) :
    SameStanding s t :=
  of_chans (fun b hb => by rw [ht]; exact hb) hp hf (fun c => by rw [hc]; exact .refl _) fun c => by rw [hc]

theorem refl (s : State) : SameStanding s s := of_eq rfl rfl rfl rfl

theorem of_sameBlocks (h : SameBlocks s t) : SameStanding s t := of_eq h.tbs h.chans h.pairs h.faults

theorem offer (r : Report) (s : State) : SameStanding s (s.offer r) := of_eq rfl rfl rfl rfl

theorem offerIf (n : Option Byte) (r : Byte → Report) (s : State) : SameStanding s (s.offerIf n r) :=
  of_eq (by simp) (by simp) (by simp) (by simp)

theorem modPoint (p : Fin 8) (f : Point → Point) (s : State) : SameStanding s (s.modPoint p f) := of_eq rfl rfl rfl rfl

theorem modUnit (u : Fin 4) (f : SpeedUnit → SpeedUnit) (s : State) : SameStanding s (s.modUnit u f) :=
  of_eq rfl rfl rfl rfl

theorem modTb {b : Fin 4} {f : Timebase → Timebase} (h : (f s.tbs[b]).state = s.tbs[b].state) :
    SameStanding s (s.modTb b f) := by
  refine of_chans (fun j hj => ?_) rfl rfl (fun _ => .refl _) fun _ => rfl
  rw [State.modTb_get]
  split
  · next hb => rw [h, ← hb]; exact hj
  · exact hj

theorem mapTbs {f : Fin 4 → Timebase → Timebase}
    (h : ∀ b : Fin 4, s.tbs[b].state = .running → (f b s.tbs[b]).state = .running) : SameStanding s (s.mapTbs f) :=
  of_chans (fun b hb => by rw [State.mapTbs_get]; exact h b hb) (State.mapTbs_pairs f s) (State.mapTbs_faults f s)
    (fun c => by rw [State.mapTbs_chans]; exact .refl _) fun c => by rw [State.mapTbs_chans]

theorem modChan {c : Fin 16} {f : Channel → Channel} (h : s.chans[c].StandsAlike (f s.chans[c]))
    (hf : (f s.chans[c]).forced = s.chans[c].forced) : SameStanding s (s.modChan c f) := by
  refine of_chans (fun _ hb => hb) rfl rfl (fun x => ?_) fun x => ?_
  · rw [State.modChan_get]
    split
    · next hx => subst hx; exact h
    · exact .refl _
  · rw [State.modChan_get]
    split
    · next hx => subst hx; exact hf
    · rfl

theorem mapChans {f : Fin 16 → Channel → Channel} (h : ∀ c : Fin 16, s.chans[c].StandsAlike (f c s.chans[c]))
    (hf : ∀ c : Fin 16, (f c s.chans[c]).forced = s.chans[c].forced) : SameStanding s (s.mapChans f) :=
  of_chans (fun _ hb => by rw [State.mapChans_tbs]; exact hb) (State.mapChans_pairs f s) (State.mapChans_faults f s)
    (fun c => by rw [State.mapChans_get]; exact h c) fun c => by rw [State.mapChans_get]; exact hf c

theorem modSet {set : ChSet} {f : Channel → Channel}
    (h : ∀ c : Fin 16, set.has c = true → s.chans[c].StandsAlike (f s.chans[c]))
    (hf : ∀ ch, (f ch).forced = ch.forced) : SameStanding s (s.modSet set f) := by
  refine mapChans (fun c => ?_) fun c => ?_
  · split
    · next hc => exact h c hc
    · exact .refl _
  · split
    · exact hf _
    · rfl

/-- A source whose set and action stay, and that stays latched or not. -/
theorem modFault {f : Fin 4} {g : FaultSource → FaultSource} (hl : (g s.faults[f]).latched = s.faults[f].latched)
    (ha : (g s.faults[f]).action = s.faults[f].action) (hc : (g s.faults[f]).chans = s.faults[f].chans) :
    SameStanding s (s.modFault f g) := by
  have hsource (i : Fin 4) : ((s.modFault f g).faults[i]).latched = s.faults[i].latched ∧
      ((s.modFault f g).faults[i]).action = s.faults[i].action ∧
      ((s.modFault f g).faults[i]).chans = s.faults[i].chans := by
    rw [State.modFault_get]
    split
    · next hi => subst hi; exact ⟨hl, ha, hc⟩
    · exact ⟨rfl, rfl, rfl⟩
  have hcovers (i : Fin 4) (c : Fin 16) : (s.modFault f g).covers i c = s.covers i c := by
    obtain ⟨hl, ha, hc⟩ := hsource i
    simp only [State.covers, State.testedChannel, hl, ha, hc]
    rfl
  exact ⟨fun _ hb => hb, rfl, State.covered_congr hcovers,
    State.coveredByStop_congr hcovers fun i _ _ => (hsource i).2.1, fun _ => .refl _, fun _ _ h => h⟩

theorem forEach {α : Type} {xs : List α} {f : α → State → State}
    (h : ∀ x ∈ xs, ∀ u, SameStanding s u → SameStanding u (f x u)) : SameStanding s (forEach xs f s) :=
  forEach_induction (SameStanding s) xs f (fun x hx u hu => hu.trans (h x hx u hu)) s (.refl s)

theorem forEachInAnyOrder {α : Type} {xs : List α} {f : α → State → State}
    (h : ∀ x ∈ xs, ∀ u, SameStanding s u → SameStanding u (f x u)) : SameStanding s (forEachInAnyOrder xs f s) :=
  forEachInAnyOrder_induction (SameStanding s) xs f (fun _ _ hu => hu.trans (of_eq rfl rfl rfl rfl))
    (fun x hx u hu => hu.trans (h x hx u hu)) s (.refl s)

/-- Handling of one channel that ends with that channel standing as before: the others are released at most (R49). -/
theorem of_reaches {c : Fin 16} (h : Reaches noTb (· = c) noPair s t) (hc : s.chans[c].StandsAlike t.chans[c])
    (hf : s.covered c = true → s.chans[c].forced = true → t.chans[c].forced = true) : SameStanding s t where
  running b hb := by rw [h.tbs_eq]; exact hb
  pairs := Vector.ext fun k hk => h.pairs ⟨k, hk⟩ id
  covered := h.covered
  coveredByStop := State.coveredByStop_congr (State.covers_congr h.faults h.enabled) fun f _ _ => by rw [h.faults]
  chans x := by
    by_cases hx : x = c
    · subst hx; exact hc
    · rcases h.others x hx with heq | ⟨_, n, heq⟩
      · rw [heq]; exact .refl _
      · rw [heq]; exact Channel.standsAlike_release _ n
  forced x hx hforced := by
    by_cases hxc : x = c
    · subst hxc; exact hf hx hforced
    · exact (h.forced hxc).trans hforced

end SameStanding

/-! ## The six stages (chapter 3) -/

theorem stageLevel_standing (c : Fin 16) (s : State) : SameStanding s (s.stageLevel c) := by
  unfold State.stageLevel
  split
  · exact .refl s
  · refine SameStanding.trans (.modChan ⟨rfl, rfl, id, .rfl, fun _ hv => ?_⟩ rfl) (.offerIf _ _ _)
    obtain ⟨hidle, hqueue, hlist, -⟩ := hv
    exact ⟨hidle, hqueue, hlist, rfl⟩

theorem withdraw_standing (c : Fin 16) (s : State) : SameStanding s (s.withdraw c) := by
  obtain ⟨v, hv⟩ := s.withdraw_frame c
  rw [hv]
  exact .of_eq rfl rfl rfl rfl

/-- A list is applied to a channel that holds one, so to none that is vacant (R41). -/
theorem stageReplacement_standing (c : Fin 16) (s : State) : SameStanding s (s.stageReplacement c) := by
  cases hr : s.chans[c].replacement with
  | none =>
    rw [State.stageReplacement_of_none hr]
    exact .refl s
  | some r =>
    rw [State.stageReplacement_of_some hr]
    refine SameStanding.trans ?_ (.offerIf _ _ _)
    have happlied : SameStanding (s.withdraw c) ((s.withdraw c).modChan c fun ch => ch.applyList r.segments) := by
      rw [← State.withdraw_chans c s] at hr
      refine .modChan ⟨rfl, rfl, id, ?_, fun _ ⟨_, _, hlist, _⟩ => ?_⟩ rfl
      · unfold Channel.applyList
        by_cases hw : (s.withdraw c).chans[c].state = .waiting <;> simp [hw, -Fin.getElem_fin]
      · exact absurd (hr.symm.trans hlist) (Option.some_ne_none r)
    exact ((withdraw_standing c s).trans happlied).trans (.of_eq rfl rfl rfl rfl)

theorem stageControl_standing (c : Fin 16) (s : State) : SameStanding s (s.stageControl c) := by
  refine .modChan ⟨rfl, rfl, id, ?_, fun _ ⟨hidle, hrest⟩ => ⟨?_, hrest⟩⟩ rfl
  · rw [Channel.applyControl_eq]
    cases s.chans[c].state <;> cases s.chans[c].pendingControl <;> simp
  · rw [Channel.applyControl_eq, hidle]
    simp

theorem State.completeHead_state (c : Fin 16) (s : State) :
    (s.completeHead c).chans[c].state = s.chans[c].state := by
  have hmod (q : List Segment) :
      (s.modChan c fun ch => { ch with queue := q, run := .clear }).chans[c].state = s.chans[c].state := by
    rw [State.modChan_get, if_pos rfl]
  unfold State.completeHead
  split
  · rfl
  · split
    · exact hmod _
    · exact hmod _

/-- A RUNNING channel that arrives waits, or completes the set and runs on (R48, R65, R67). -/
theorem State.arrive_state (c : Fin 16) (p : Fin 8) {s : State} (h : s.chans[c].state = .running) :
    (s.arrive c p).chans[c].state ≠ .faulted := by
  by_cases hfull : s.points[p].arrived.add c = s.points[p].members
  · rw [State.arrive_of_complete hfull, State.completeRelease_eq, State.offer_chans, State.modPoint_chans,
      State.releaseChannels_get]
    split
    · simp [Channel.release, h, -Fin.getElem_fin]
    · rw [h]
      exact ChState.noConfusion
  · rw [State.arrive_of_incomplete hfull, State.modChan_get, if_pos rfl]
    exact ChState.noConfusion

/-- No program step makes a RUNNING channel FAULTED (section 3.9.3). -/
theorem State.startHeads_state (c : Fin 16) (n : Nat) (s : State) (h : s.chans[c].state = .running) :
    (State.startHeads c n s).chans[c].state ≠ .faulted := by
  have hend (s : State) : (s.endProgram c).chans[c].state ≠ .faulted := by
    rw [State.endProgram, State.modChan_get, if_pos rfl]
    exact ChState.noConfusion
  have hstay {t : State} (ht : t.chans[c].state = .running) : t.chans[c].state ≠ .faulted := by
    rw [ht]
    exact ChState.noConfusion
  induction n generalizing s with
  | zero =>
    unfold State.startHeads
    split
    · exact hend s
    · exact hstay h
  | succ n ih =>
    have next {t : State} (ht : t.chans[c].state = .running) :
        (State.startHeads c n (t.completeHead c)).chans[c].state ≠ .faulted :=
      ih _ ((State.completeHead_state c t).trans ht)
    have hmod {f : Channel → Channel} (hf : (f s.chans[c]).state = s.chans[c].state) :
        (s.modChan c f).chans[c].state = .running := by
      rw [State.modChan_get, if_pos rfl, hf, h]
    cases hq : s.chans[c].queue with
    | nil => rw [State.startHeads_empty hq]; exact hend s
    | cons g rest =>
      cases g with
      | set level => rw [State.startHeads_set n hq]; exact next (hmod rfl)
      | note tag => rw [State.startHeads_note n hq]; exact next h
      | hold _ => rw [State.startHeads_hold n hq]; exact hstay (hmod rfl)
      | ramp _ _ => rw [State.startHeads_ramp n hq]; exact hstay (hmod rfl)
      | sync p =>
        rw [State.startHeads_sync n hq]
        split
        · exact State.arrive_state c p h
        · exact next h

theorem stageAdvance_standing (c : Fin 16) (s : State) : SameStanding s (s.stageAdvance c) := by
  by_cases hrun : s.chans[c].state = .running
  · obtain ⟨hreaches, hown⟩ := stageAdvance_advancesOnly c s
    refine .of_reaches hreaches ⟨(hreaches.settings c).locked, (hreaches.settings c).tb, hown.forced.trans, ?_, ?_⟩
      fun _ => hown.forced.trans
    · have hnot : (s.stageAdvance c).chans[c].state ≠ .faulted := by
        unfold State.stageAdvance
        dsimp only
        rw [if_neg (not_not.mpr hrun)]
        split
        · exact State.startHeads_state c _ s hrun
        · rw [State.modChan_get, if_pos rfl]
          simp [Channel.nextPeriod, hrun, -Fin.getElem_fin]
        · exact State.startHeads_state c _ _ ((State.completeHead_state c s).trans hrun)
        · rw [hrun]
          exact ChState.noConfusion
      exact iff_of_false hnot (by rw [hrun]; exact ChState.noConfusion)
    · exact fun _ ⟨hidle, _⟩ => absurd (hrun.symm.trans hidle) ChState.noConfusion
  · rw [State.stageAdvance_of_not_running hrun]
    exact .refl s

/-- Stage 6 lifts the forced flag of an uncovered channel alone (R52). -/
theorem stageUnforce_standing (c : Fin 16) (s : State) : SameStanding s (s.stageUnforce c) := by
  have hown := stageUnforce_own c s
  refine .of_reaches (stageUnforce_reaches c s) ?_ fun hcovered hforced => ?_
  · rw [hown]
    exact ⟨rfl, rfl, fun hf => by rw [hf]; rfl, .rfl, fun _ h => h⟩
  · rw [hown, hforced, hcovered]
    rfl

theorem sixStages_standing (c : Fin 16) (s : State) : SameStanding s (s.sixStages c) := by
  have hlatch (t : State) : SameStanding t (t.stageLatch c) := .modChan ⟨rfl, rfl, id, .rfl, fun _ h => h⟩ rfl
  exact (((((stageLevel_standing c s).trans (stageReplacement_standing c _)).trans (stageControl_standing c _)).trans
    (stageAdvance_standing c _)).trans (hlatch _)).trans (stageUnforce_standing c _)

theorem expireGathering_standing (p : Fin 8) (s : State) : SameStanding s (s.expireGathering p) := by
  rw [State.expireGathering_eq]
  have hreleased : SameStanding s (s.releaseChannels s.points[p].arrived) := by
    refine .mapChans (fun c => ?_) fun c => ?_
    · split
      · exact Channel.standsAlike_release _ _
      · exact .refl _
    · split <;> rfl
  exact (hreleased.trans (.modPoint p _ _)).trans (.offer _ _)

end Sys2Proof.Machine

namespace Sys2Proof.Machine

/-! ## Requests that change nothing of it -/

theorem dropPendingPeriod_standing (b : Fin 4) (s : State) : SameStanding s (s.dropPendingPeriod b) :=
  SameStanding.trans (.modTb rfl) (.offerIf _ _ _)

theorem settleSpeed_standing (s : State) : SameStanding s s.settleSpeed := by
  unfold State.settleSpeed
  split
  · exact .refl s
  · exact .modFault rfl rfl rfl

theorem takeToQueue_standing {c : Fin 16} {s : State} (h : s.chans[c].locked = false) (segs : List Segment) :
    SameStanding s (s.takeToQueue c segs) := by
  have happended : SameStanding s (s.modChan c fun ch => { ch with queue := ch.queue ++ segs }) :=
    .modChan (.of_unlocked h rfl rfl rfl .rfl) rfl
  exact happended.trans (.of_eq rfl rfl rfl rfl)

theorem freeReplacement_standing (c : Fin 16) (s : State) : SameStanding s (s.freeReplacement c) := by
  have hdropped : SameStanding s (s.modChan c fun ch => { ch with replacement := none }) := by
    refine .modChan ⟨rfl, rfl, id, .rfl, fun _ ⟨hidle, hqueue, _, hlevel⟩ => ?_⟩ rfl
    exact ⟨hidle, hqueue, rfl, hlevel⟩
  unfold State.freeReplacement
  split
  · exact .refl s
  · exact hdropped.trans (.of_eq rfl rfl rfl rfl)

theorem supersedeReplacement_standing (c : Fin 16) (s : State) : SameStanding s (s.supersedeReplacement c) := by
  unfold State.supersedeReplacement
  split
  · exact .refl s
  · exact (freeReplacement_standing c s).trans (.offerIf _ _ _)

theorem replaceList_standing {c : Fin 16} {s : State} (h : s.chans[c].locked = false) (segs : List Segment)
    (notify : Option Byte) : SameStanding s ((s.supersedeReplacement c).takeToReplacement c segs notify) := by
  have hdropped := supersedeReplacement_standing c s
  have htaken : SameStanding (s.supersedeReplacement c) ((s.supersedeReplacement c).modChan c fun ch =>
      { ch with replacement := some { segments := segs, notify := notify } }) :=
    .modChan (.of_unlocked ((hdropped.chans c).locked.trans h) rfl rfl rfl .rfl) rfl
  exact (hdropped.trans htaken).trans (.of_eq rfl rfl rfl rfl)

/-- A FAULTED channel stays FAULTED when flushed (R57). -/
theorem flushChannel_standing {c : Fin 16} {s : State} (h : s.chans[c].locked = false) :
    SameStanding s (s.flushChannel c) := by
  rw [State.flushChannel_eq]
  refine SameStanding.trans ?_ (.offerIf _ _ _)
  have hflushed : SameStanding (s.withdraw c) ((s.withdraw c).modChan c Channel.flushed) := by
    refine .modChan (.of_unlocked ?_ rfl rfl rfl ?_) rfl
    · rw [State.withdraw_chans]; exact h
    · unfold Channel.flushed
      by_cases hf : (s.withdraw c).chans[c].state = .faulted <;> simp [hf, -Fin.getElem_fin]
  exact ((withdraw_standing c s).trans hflushed).trans (.of_eq rfl rfl rfl rfl)

/-- A source that is not latched covers no channel before or after its configuration (R103, R108). -/
theorem faultConfig_standing {f : Fin 4} {s : State} (h : s.faults[f].latched = false) (action : Action) (chans : ChSet)
    (input : Option FltInput) :
    SameStanding s (s.modFault f fun src => { src with action := action, chans := chans, input := input }) := by
  generalize ht : (s.modFault f fun src => { src with action := action, chans := chans, input := input }) = t
  have hother (i : Fin 4) (hi : i ≠ f) : t.faults[i] = s.faults[i] := by
    rw [← ht, State.modFault_get, if_neg hi]
  have hpairs : t.pairs = s.pairs := by rw [← ht, State.modFault_pairs]
  have hnone : ∀ c, s.covers f c = false := fun c => by rw [State.covers, h]; rfl
  have hcovers (i : Fin 4) (c : Fin 16) : t.covers i c = s.covers i c := by
    by_cases hi : i = f
    · subst hi
      have hlatched : t.faults[i].latched = false := by rw [← ht, State.modFault_get, if_pos rfl]; exact h
      rw [hnone, State.covers, hlatched]
      rfl
    · simp only [State.covers, State.testedChannel, hother i hi, hpairs]
  have haction (i : Fin 4) (c : Fin 16) (hc : s.covers i c = true) : t.faults[i].action = s.faults[i].action := by
    rw [hother i]
    rintro rfl
    exact Bool.false_ne_true ((hnone c).symm.trans hc)
  exact ⟨fun b hb => by rw [← ht]; exact hb, hpairs, State.covered_congr hcovers,
    State.coveredByStop_congr hcovers haction, fun c => by rw [← ht]; exact .refl _, fun c _ hf => by rw [← ht]; exact hf⟩

/-! ## What is left to prove of such an invariant -/

/-- A property of the pairs and the coverage, by what can touch it: the pair logic, a source that becomes active, and five
requests. -/
structure StandingInvariant (P : State → Prop) : Prop where
  keep : ∀ {s t : State}, P s → SameStanding s t → P t
  reset : ∀ cause (s : State), P (s.afterReset cause)
  boundaryPair : ∀ c starts x (s before : State), P s → P (s.boundaryPair c starts x before)
  tickPairs : ∀ b (s old : State), P s → P (s.tickPairs b old)
  riseA : ∀ (k : Fin 8) (s : State), s.riseDue k s.pairs[k].riseA true = true → P s →
    P (s.modPair k fun p => { p with a := true, riseA := none })
  riseB : ∀ (k : Fin 8) (s : State), s.riseDue k s.pairs[k].riseB false = true → P s →
    P (s.modPair k fun p => { p with b := true, riseB := none })
  activate : ∀ f (s : State), P s → P (s.activateFault f)
  tbStop : ∀ (set : List (Fin 4)) (s : State), P s →
    P ((s.mapTbs fun b tb => if set.contains b then tb.stop else tb).haltPairs
      fun b => set.contains b && s.tbs[b].state == .running)
  chConfig : ∀ c tb mode safe (s : State), s.chans[c].locked = false → P s →
    P ((s.configChannel c tb mode safe).rebindPair c s)
  pairConfig : ∀ (k : Fin 8) enable d (s : State), d ≤ 63 →
    (enable = true → s.pairs[k].enabled = false → s.chans[oddOf k].lockable = true) → P s → P (s.configPair k enable d)
  faultClear : ∀ (f : Fin 4) (s : State), s.faults[f].active = false → s.faults[f].latched = true → P s → P (s.clearFault f)

namespace StandingInvariant

variable {P : State → Prop} {s t : State}

theorem boundary (h : StandingInvariant P) (hs : P s) (starts : Bool) (b : Fin 4) : P (s.boundary starts b) := by
  refine forEachInAnyOrder_induction P _ _ (fun _ _ hu => h.keep hu (.of_eq rfl rfl rfl rfl)) (fun part _ u hu => ?_) _
    (h.keep hs (.modTb rfl))
  cases part with
  | applied seq => exact h.keep hu (.offer _ u)
  | channel c => exact h.boundaryPair c starts _ _ _ (h.keep hu (sixStages_standing c u))

theorem tickTimebase (h : StandingInvariant P) (hs : P s) (b : Fin 4) : P (s.tickTimebase b) := by
  unfold State.tickTimebase
  split
  · exact h.boundary hs false b
  · exact h.tickPairs b _ s (h.keep hs (.modTb rfl))

theorem startTbs (h : StandingInvariant P) (hs : P s) (set : List (Fin 4)) : P (s.startTbs set) := by
  refine forEachInAnyOrder_induction P _ _ (fun _ _ hu => h.keep hu (.of_eq rfl rfl rfl rfl))
    (fun b _ u hu => h.boundary hu true b) _ (h.keep hs (.mapTbs fun b hb => ?_))
  split
  · rfl
  · exact hb

theorem sampleFaults (h : StandingInvariant P) (hs : P s) (flt : Vector Bool 2) : P (s.sampleFaults flt) := by
  have hsample (f : Fin 4) (high : Bool) (u : State) : SameStanding u (u.modFault f fun src => src.sample high) := by
    refine .modFault ?_ ?_ ?_ <;>
    · unfold FaultSource.sample
      split
      · rfl
      · split <;> rfl
  exact forEachInAnyOrder_induction P _ _ (fun _ _ hu => h.keep hu (.of_eq rfl rfl rfl rfl))
    (fun f _ u hu => h.activate f u hu) _ (h.keep hs ((hsample 0 _ s).trans (hsample 1 _ _)))

theorem expireWindow (h : StandingInvariant P) (hs : P s) (u : Fin 4) : P (s.expireWindow u) := by
  refine h.keep (forEachInAnyOrder_induction P _ _ (fun _ _ hv => h.keep hv (.of_eq rfl rfl rfl rfl)) (fun e _ v hv => ?_)
    _ (h.keep hs (.modUnit u _ s))) (settleSpeed_standing _)
  cases e with
  | report r => exact h.keep hv (.offer r v)
  | raiseSpeed => exact h.activate speed v hv

theorem request (h : StandingInvariant P) (hs : P s) (e : RequestEffect s t) : P t := by
  cases e with
  | sameBlocks hst => exact h.keep hs (.of_sameBlocks hst)
  | timebase b f hf hst =>
    exact h.keep hs (((dropPendingPeriod_standing b s).trans (.modTb (hf _).1)).trans (.of_sameBlocks hst))
  | tbStart set _ => exact h.startTbs hs set
  | tbStop set => exact h.tbStop set s hs
  | chQuota q => exact h.keep hs (.mapChans (fun _ => ⟨rfl, rfl, id, .rfl, fun _ hv => hv⟩) fun _ => rfl)
  | segAppend c segs unlocked => exact h.keep hs (takeToQueue_standing unlocked segs)
  | segReplace c segs notify unlocked => exact h.keep hs (replaceList_standing unlocked segs notify)
  | chConfig c tb mode safe unlocked _ => exact h.chConfig c tb mode safe s unlocked hs
  | chLevel c p unlocked _ =>
    exact h.keep hs (SameStanding.trans (.modChan (.of_unlocked unlocked rfl rfl rfl .rfl) rfl) (.offerIf _ _ _))
  | chStart set unlocked idle =>
    refine h.keep hs (.modSet (fun c hc => .of_unlocked (unlocked c hc) rfl rfl rfl ?_) fun _ => rfl)
    rw [idle c hc]
    exact iff_of_false ChState.noConfusion ChState.noConfusion
  | chPause set unlocked =>
    exact h.keep hs (.modSet (fun c hc => .of_unlocked (unlocked c hc) rfl rfl rfl .rfl) fun _ => rfl)
  | chResume set unlocked =>
    exact h.keep hs (.modSet (fun c hc => .of_unlocked (unlocked c hc) rfl rfl rfl .rfl) fun _ => rfl)
  | chFlush set unlocked =>
    refine h.keep hs (.forEachInAnyOrder fun c hc u hu => flushChannel_standing ((hu.chans c).locked.trans ?_))
    exact unlocked c (List.mem_filter.mp hc).2
  | rpDefine p members timeout _ => exact h.keep hs (.modPoint p _ s)
  | pairConfig k enable d range free => exact h.pairConfig k enable d s range free hs
  | faultConfig f action chans input _ _ _ unlatched => exact h.keep hs (faultConfig_standing unlatched action chans input)
  | faultClear f inactive latched => exact h.faultClear f s inactive latched hs
  | smConfig u cfg => exact h.keep hs ((SameStanding.modUnit u _ s).trans (settleSpeed_standing _))

theorem blockInvariant (h : StandingInvariant P) : BlockInvariant P where
  congr hs hst := h.keep hs (.of_sameBlocks hst)
  reset := h.reset
  perform f s hs := h.request hs (perform_effect f s)
  clock s hs := h.keep hs (.mapTbs fun b hb => by rw [Timebase.clock, hb])
  tick b _ _ hs := h.tickTimebase hs b
  riseA := h.riseA
  riseB := h.riseB
  sample lines s hs := by
    have hunits : P (s.mapUnits fun u unit => unit.sample lines.tach[u]) := h.keep hs (.of_eq rfl rfl rfl rfl)
    exact h.sampleFaults hunits lines.flt
  advance s hs := h.keep hs (.of_eq rfl rfl rfl rfl)
  gather p s _ hs := h.keep hs (expireGathering_standing p s)
  window u _ _ hs := h.expireWindow hs u
  silenceOn s hs := h.activate silence s hs
  silenceOff s hs := h.keep hs (.modFault rfl rfl rfl)

end StandingInvariant

end Sys2Proof.Machine

namespace Sys2Proof.Machine

/-! # O53: Law 5 -/

/-! ## The pair record (R81 to R83) -/

namespace Pair.Inv

variable {p : Pair}

theorem deadTime_le (h : p.Inv) : p.deadTime ≤ 63 := h.2.1

theorem low_of_disabled (h : p.Inv) (he : p.enabled = false) : p.low = p := by
  obtain ⟨-, -, -, -, hlow⟩ := h
  obtain ⟨ha, hb, hra, hrb⟩ := hlow he
  cases p
  simp_all [Pair.low]

/-- A pair with both signals low and no delay. -/
theorem of_low (hl : p.low = p) (hd : p.deadTime ≤ 63) : p.Inv := by
  rw [← hl]
  refine ⟨fun h => Bool.false_ne_true h.1, hd, fun _ h => ?_, fun _ h => ?_, fun _ => ⟨rfl, rfl, rfl, rfl⟩⟩ <;>
    cases h

theorem low (h : p.Inv) : p.low.Inv := of_low rfl h.deadTime_le

/-- The delay that an edge starts counts from 0, and its opposite signal is low (R81). -/
theorem edge (h : p.Inv) (he : p.enabled = true) (x : Bool) : (p.edge x).Inv := by
  obtain ⟨-, hd, -⟩ := h
  unfold Pair.edge
  cases x <;> by_cases h0 : p.deadTime = 0 <;> simp [h0, Pair.Inv, hd, he, Nat.pos_of_ne_zero]

theorem restart (h : p.Inv) (he : p.enabled = true) (x : Bool) : (p.restart x).Inv := h.low.edge he x

/-- A delay of A ends with A high, where B is low, or counts on below D (R82). -/
theorem riseAAt {n : Nat} (h : p.Inv) (hn : p.riseA = some n) (he : p.enabled = true) (m : Nat) : (p.riseAAt m).Inv := by
  obtain ⟨-, hd, hA, -, -⟩ := h
  obtain ⟨hb, hrb, -⟩ := hA n hn
  unfold Pair.riseAAt
  by_cases hm : p.deadTime ≤ m <;> simp [hm, Pair.Inv, hd, hb, hrb, he, Nat.lt_of_not_le]

theorem riseBAt {n : Nat} (h : p.Inv) (hn : p.riseB = some n) (he : p.enabled = true) (m : Nat) : (p.riseBAt m).Inv := by
  obtain ⟨-, hd, -, hB, -⟩ := h
  obtain ⟨ha, hra, -⟩ := hB n hn
  unfold Pair.riseBAt
  by_cases hm : p.deadTime ≤ m <;> simp [hm, Pair.Inv, hd, ha, hra, he, Nat.lt_of_not_le]

theorem countTick (h : p.Inv) (he : p.enabled = true) : p.countTick.Inv := by
  unfold Pair.countTick
  split
  · next hn => exact h.riseAAt hn he _
  · split
    · next hn => exact h.riseBAt hn he _
    · exact h

theorem tick (h : p.Inv) (he : p.enabled = true) (x y : Bool) : (p.tick x y).Inv := by
  unfold Pair.tick
  split
  · exact h.countTick he
  · exact h.edge he y

end Pair.Inv

/-! ## The pairs of a state -/

/-- Law 5 for one pair, and that it is low unless its logic acts (R77, R81, R84). -/
structure State.PairSound (s : State) (k : Fin 8) : Prop where
  inv : s.pairs[k].Inv
  low : s.pairActs k = false → s.pairs[k].low = s.pairs[k]

def State.PairsSound (s : State) : Prop := ∀ k : Fin 8, s.PairSound k

theorem State.pairsSound_iff (s : State) : s.PairsSound ↔ s.PairsInv ∧ s.PairsHeldLow :=
  ⟨fun h => ⟨fun k => (h k).inv, fun k => (h k).low⟩, fun ⟨hinv, hlow⟩ k => ⟨hinv k, hlow k⟩⟩

theorem State.pairActs_iff (s : State) (k : Fin 8) : s.pairActs k = true ↔
    s.pairs[k].enabled = true ∧ s.tbs[s.chans[evenOf k].tb].state = .running ∧ s.chans[evenOf k].forced = false := by
  simp only [State.pairActs, State.onRunningTb, Bool.and_eq_true, decide_eq_true_eq, Bool.not_eq_true', and_assoc]

/-- Whether a pair acts rests on the timebases, on the binding and the forced flag of its even channel, and on its own
enabling. -/
theorem State.pairActs_congr {s t : State} {k : Fin 8} (ht : t.tbs = s.tbs)
    (htb : t.chans[evenOf k].tb = s.chans[evenOf k].tb) (hf : t.chans[evenOf k].forced = s.chans[evenOf k].forced)
    (he : t.pairs[k].enabled = s.pairs[k].enabled) : t.pairActs k = s.pairActs k := by
  simp only [State.pairActs, State.onRunningTb, ht, getTb_congr s.tbs htb, hf, he]

namespace State.PairSound

variable {s t : State} {k : Fin 8}

theorem enabled (_ : s.PairSound k) (ha : s.pairActs k = true) : s.pairs[k].enabled = true :=
  ((s.pairActs_iff k).mp ha).1

/-- An unchanged pair that does not stop acting. -/
theorem keep (h : s.PairSound k) (hp : t.pairs[k] = s.pairs[k]) (ha : s.pairActs k = true → t.pairActs k = true) :
    t.PairSound k where
  inv := hp ▸ h.inv
  low hl := by
    rw [hp]
    refine h.low (Bool.eq_false_iff.mpr fun hs => ?_)
    exact Bool.false_ne_true (hl.symm.trans (ha hs))

/-- An unchanged pair whose even channel keeps its binding and its forced flag. -/
theorem congr (h : s.PairSound k) (hp : t.pairs[k] = s.pairs[k]) (ht : t.tbs = s.tbs)
    (htb : t.chans[evenOf k].tb = s.chans[evenOf k].tb) (hf : t.chans[evenOf k].forced = s.chans[evenOf k].forced) :
    t.PairSound k := h.keep hp fun ha => (State.pairActs_congr ht htb hf (by rw [hp])).trans ha

/-- An unchanged pair with an unchanged even channel. -/
theorem of_chan (h : s.PairSound k) (hp : t.pairs[k] = s.pairs[k]) (ht : t.tbs = s.tbs)
    (hc : t.chans[evenOf k] = s.chans[evenOf k]) : t.PairSound k := h.congr hp ht (by rw [hc]) (by rw [hc])

/-- A pair that acts may have any signals that Law 5 allows. -/
theorem acting (hi : t.pairs[k].Inv) (ha : t.pairActs k = true) : t.PairSound k :=
  ⟨hi, fun hl => absurd (hl.symm.trans ha) Bool.false_ne_true⟩

/-- A pair that is low need not act. -/
theorem of_low (hl : t.pairs[k].low = t.pairs[k]) (hd : t.pairs[k].deadTime ≤ 63) : t.PairSound k :=
  ⟨.of_low hl hd, fun _ => hl⟩

end State.PairSound

/-- A source unlatched with its report, before the FAULTED channels return (R106). -/
def State.unlatchFault (f : Fin 4) (s : State) : State :=
  (s.modFault f fun src => { src with latched := false }).offer (.faultCleared f)

theorem State.clearFault_eq (f : Fin 4) (s : State) : s.clearFault f = (s.unlatchFault f).mapChans fun c ch =>
    if ch.state = .faulted ∧ (s.unlatchFault f).coveredByStop c = false then ch.returned else ch := rfl

namespace State.PairsSound

variable {s t : State}

theorem standing (h : s.PairsSound) (g : SameStanding s t) : t.PairsSound := fun k => by
  refine (h k).keep (by rw [g.pairs]) fun ha => ?_
  obtain ⟨he, hrun, hf⟩ := (s.pairActs_iff k).mp ha
  have hchan := g.chans (evenOf k)
  refine (t.pairActs_iff k).mpr ⟨by rw [g.pairs]; exact he, ?_, hchan.unforced hf⟩
  rw [getTb_congr t.tbs hchan.tb]
  exact g.running _ hrun

/-- Only the pairs change, and only those whose logic acts (R81 to R83). -/
theorem setPairs (h : s.PairsSound) (ht : t.tbs = s.tbs) (hc : t.chans = s.chans)
    (hp : ∀ k : Fin 8, t.pairs[k] = s.pairs[k] ∨
      s.pairActs k = true ∧ t.pairs[k].enabled = s.pairs[k].enabled ∧ t.pairs[k].Inv) : t.PairsSound := fun k => by
  rcases hp k with heq | ⟨ha, he, hi⟩
  · exact (h k).of_chan heq ht (by rw [hc])
  · exact .acting hi ((State.pairActs_congr ht (by rw [hc]) (by rw [hc]) he).trans ha)

theorem modPair (h : s.PairsSound) {k : Fin 8} {f : Pair → Pair} (ha : s.pairActs k = true)
    (he : (f s.pairs[k]).enabled = s.pairs[k].enabled) (hi : (f s.pairs[k]).Inv) : (s.modPair k f).PairsSound := by
  refine h.setPairs rfl rfl fun j => ?_
  rw [State.modPair_get]
  split
  · next hj => subst hj; exact .inr ⟨ha, he, hi⟩
  · exact .inl rfl

theorem restartPair (h : s.PairsSound) (k : Fin 8) : (s.restartPair k).PairsSound := by
  unfold State.restartPair
  split
  · next ha => exact h.modPair ha (Pair.restart_enabled _ _) ((h k).inv.restart ((h k).enabled ha) _)
  · exact h

theorem boundaryPair (h : s.PairsSound) (c : Fin 16) (starts x : Bool) (before : State) :
    (s.boundaryPair c starts x before).PairsSound := by
  rw [State.boundaryPair_eq]
  split
  · next hc =>
    obtain ⟨-, ha⟩ := hc
    have he := (h (pairOf c)).enabled ha
    refine h.modPair ha ?_ ?_ <;> split
    · exact Pair.restart_enabled _ _
    · exact Pair.tick_enabled _ _ _
    · exact (h _).inv.restart he _
    · exact (h _).inv.tick he _ _
  · exact h

theorem tickPairs (h : s.PairsSound) (b : Fin 4) (old : State) : (s.tickPairs b old).PairsSound := by
  refine h.setPairs (State.mapPairs_tbs _ s) (State.mapPairs_chans _ s) fun k => ?_
  rw [State.tickPairs, State.mapPairs_get]
  split
  · next hk =>
    have ha := (Bool.and_eq_true_iff.mp hk).1
    exact .inr ⟨ha, Pair.tick_enabled _ _ _, (h k).inv.tick ((h k).enabled ha) _ _⟩
  · exact .inl rfl

/-- Forcing reaches the pair of an even channel, and a disabled pair is low already (R84, R104). -/
theorem forceChannel (h : s.PairsSound) (c : Fin 16) : (s.forceChannel c).PairsSound := fun k => by
  have hd := (h k).inv.deadTime_le
  unfold State.forceChannel State.forcePair
  by_cases hk : evenOf k = c
  · subst hk
    simp only [isEven_evenOf, pairOf_evenOf, Bool.true_and]
    split
    · refine .of_low ?_ ?_ <;> rw [State.modPair_get, if_pos rfl]
      · rfl
      · exact hd
    · next he => exact .of_low ((h k).inv.low_of_disabled (Bool.eq_false_iff.mpr he)) hd
  · have heven : (s.modChan c fun ch => { ch with forced := true }).chans[evenOf k] = s.chans[evenOf k] :=
      (State.modChan_get _ _ _ _).trans (if_neg hk)
    split
    · next hc =>
      have hne : k ≠ pairOf c := by
        rintro rfl
        exact hk ((isEven_iff c).mp (Bool.and_eq_true_iff.mp hc).1).symm
      have hpair : ((s.modChan c fun ch => { ch with forced := true }).modPair (pairOf c) Pair.low).pairs[k] =
          s.pairs[k] := (State.modPair_get _ _ _ _).trans (if_neg hne)
      exact (h k).of_chan hpair rfl heven
    · exact (h k).of_chan rfl rfl heven

theorem stopChannel (h : s.PairsSound) (c : Fin 16) : (s.stopChannel c).PairsSound := by
  have hmod (u : State) (hu : u.PairsSound) : (u.modChan c fun ch =>
      { ch with pendingControl := .none, state := .faulted }).PairsSound := fun k => by
    refine (hu k).congr rfl rfl ?_ ?_ <;>
    · rw [State.modChan_get]
      split
      · next hk => rw [← hk]
      · rfl
  unfold State.stopChannel
  split
  · exact h
  · exact hmod _ (h.standing (withdraw_standing c s))

theorem coverChannel (h : s.PairsSound) (f : Fin 4) (c : Fin 16) : (s.coverChannel f c).PairsSound := by
  unfold State.coverChannel
  split
  · exact h
  · exact h.forceChannel c
  · exact (h.forceChannel c).stopChannel c

/-- The pairs rest on no fault source. -/
theorem modFault (h : s.PairsSound) (f : Fin 4) (g : FaultSource → FaultSource) : (s.modFault f g).PairsSound :=
  h.setPairs rfl rfl fun _ => .inl rfl

theorem activateFault (h : s.PairsSound) (f : Fin 4) : (s.activateFault f).PairsSound := by
  have hactive := h.modFault f fun src => { src with active := true }
  unfold State.activateFault State.latchFault
  dsimp only
  split
  · exact hactive
  · refine forEach_induction State.PairsSound _ _ (fun c _ u hu => hu.coverChannel f c) _ ?_
    exact (hactive.standing (.offer _ _)).modFault f _

theorem clearFault (h : s.PairsSound) (f : Fin 4) : (s.clearFault f).PairsSound := by
  have hunlatched : (s.unlatchFault f).PairsSound := (h.modFault f _).standing (.offer _ _)
  rw [State.clearFault_eq]
  intro k
  refine (hunlatched k).congr (by rw [State.mapChans_pairs]) (State.mapChans_tbs _ _) ?_ ?_ <;>
  · rw [State.mapChans_get]
    split <;> rfl

/-- A timebase that halts takes its enabled pairs low; the other pairs act as before (R7, R84). -/
theorem tbStop (h : s.PairsSound) (set : List (Fin 4)) :
    ((s.mapTbs fun b tb => if set.contains b then tb.stop else tb).haltPairs
      fun b => set.contains b && s.tbs[b].state == .running).PairsSound := fun k => by
  generalize ht : (s.mapTbs fun b tb => if set.contains b then tb.stop else tb).haltPairs
      (fun b => set.contains b && s.tbs[b].state == .running) = t
  have hpair : t.pairs[k] = if s.pairs[k].enabled && (set.contains s.chans[evenOf k].tb &&
      s.tbs[s.chans[evenOf k].tb].state == .running) then s.pairs[k].low else s.pairs[k] := by
    rw [← ht, State.haltPairs, State.mapPairs_get]
    rfl
  have htb (b : Fin 4) : t.tbs[b] = if set.contains b then s.tbs[b].stop else s.tbs[b] := by
    rw [← ht, State.haltPairs, State.mapPairs_tbs, State.mapTbs_get]
  have hchans : t.chans = s.chans := by rw [← ht]; rfl
  have hrunning : t.tbs[t.chans[evenOf k].tb] = t.tbs[s.chans[evenOf k].tb] := getTb_congr _ (by rw [hchans])
  split at hpair
  · refine .of_low ?_ ?_ <;> rw [hpair]
    · rfl
    · exact (h k).inv.deadTime_le
  · next hnot =>
    refine (h k).keep hpair fun ha => ?_
    rw [State.pairActs_iff] at ha ⊢
    obtain ⟨he, hrun, hf⟩ := ha
    have hout : set.contains s.chans[evenOf k].tb = false := by
      simpa only [he, hrun, beq_self_eq_true, Bool.and_true, Bool.true_and, Bool.not_eq_true] using hnot
    rw [hpair, hrunning, htb, hout, if_neg Bool.false_ne_true, hchans]
    exact ⟨he, hrun, hf⟩

end State.PairsSound

/-! ## The requests that bind and lock (R38, R78 to R80) -/

theorem Pair.rebound_enabled (p : Pair) (same : Bool) (before after : TbState) (forced x y : Bool) :
    (p.rebound same before after forced x y).enabled = p.enabled := by
  unfold Pair.rebound
  split
  · rfl
  · split
    · split <;> rfl
    · split
      · rfl
      · split
        · exact Pair.restart_enabled p y
        · split
          · rfl
          · exact Pair.edge_enabled p y

theorem Pair.setDeadTime_enabled (p : Pair) (d : Nat) : (p.setDeadTime d).enabled = p.enabled := by
  unfold Pair.setDeadTime Pair.riseAAt Pair.riseBAt
  dsimp only
  split
  · split <;> rfl
  · split
    · split <;> rfl
    · rfl

/-- A delay that the new dead time has not ended stays below it (R82). -/
theorem Pair.Inv.setDeadTime {p : Pair} (h : p.Inv) (he : p.enabled = true) {d : Nat} (hd : d ≤ 63) :
    (p.setDeadTime d).Inv := by
  obtain ⟨hab, -, hA, hB, -⟩ := h
  unfold Pair.setDeadTime
  dsimp only
  split
  · next n hn =>
    obtain ⟨hb, hrb, -⟩ := hA n hn
    unfold Pair.riseAAt
    by_cases hdn : d ≤ n <;> simp [hdn, Pair.Inv, hd, hb, hrb, he, Nat.lt_of_not_le]
  · next hra =>
    split
    · next n hn =>
      obtain ⟨ha, -, -⟩ := hB n hn
      unfold Pair.riseBAt
      by_cases hdn : d ≤ n <;> simp [hdn, Pair.Inv, hd, ha, hra, he, Nat.lt_of_not_le]
    · next hrb =>
      refine ⟨hab, hd, fun n hn => ?_, fun n hn => ?_, fun hf => absurd (he.symm.trans hf) (by decide)⟩
      · exact absurd (hra.symm.trans hn) (Option.some_ne_none n).symm
      · exact absurd (hrb.symm.trans hn) (Option.some_ne_none n).symm

/-- A low pair has no delay that a new dead time could end. -/
theorem Pair.setDeadTime_of_low {p : Pair} (h : p.low = p) (d : Nat) : p.setDeadTime d = { p with deadTime := d } := by
  rw [← h]
  rfl

theorem evenOf_ne {j k : Fin 8} (h : j ≠ k) : evenOf j ≠ evenOf k := fun he => h (by
  rw [← pairOf_evenOf j, he, pairOf_evenOf])

theorem evenOf_ne_oddOf (j k : Fin 8) : evenOf j ≠ oddOf k := fun h => by
  have := Fin.val_eq_of_eq h
  simp only [evenOf, oddOf] at this
  omega

namespace State.PairsSound

variable {s : State}

/-- CH_CONFIG of the even channel of an enabled pair takes it to the new timebase (R83, R84). -/
theorem rebindEven (h : s.PairsSound) {k : Fin 8} (he : s.pairs[k].enabled = true) (b : Fin 4) (mode : Mode)
    (safe : Bool) : ((s.configChannel (evenOf k) b mode safe).rebindPair (evenOf k) s).PairsSound := by
  obtain ⟨v, w, hframe⟩ := State.configAndRebind_frame (evenOf k) b mode safe s
  obtain ⟨hchans, hothers, hpair⟩ := State.configEven he (b := b) (mode := mode) (safe := safe) rfl
  generalize (s.configChannel (evenOf k) b mode safe).rebindPair (evenOf k) s = t at *
  have htbs : t.tbs = s.tbs := by rw [hframe]
  intro j
  by_cases hj : j = k
  · subst hj
    have heven := (hchans (evenOf j)).trans (if_pos rfl)
    have hacts : t.pairActs j = true ↔ s.tbs[b].state = .running ∧ s.chans[evenOf j].forced = false := by
      have htb : t.tbs[t.chans[evenOf j].tb] = s.tbs[b] := by rw [htbs, getTb_congr s.tbs (congrArg Channel.tb heven)]
      rw [State.pairActs_iff, hpair, Pair.rebound_enabled, htb, heven]
      exact and_iff_right he
    have hinv := (h j).inv
    have hlow : ¬(s.tbs[s.chans[evenOf j].tb].state = .running ∧ s.chans[evenOf j].forced = false) →
        s.pairs[j].low = s.pairs[j] := fun hn =>
      (h j).low (Bool.eq_false_iff.mpr fun ha => hn ((s.pairActs_iff j).mp ha).2)
    unfold Pair.rebound at hpair
    split at hpair
    · next hsame =>
      refine (h j).keep hpair fun ha => hacts.mpr ?_
      rw [getTb_congr s.tbs (beq_iff_eq.mp hsame)]
      exact ((s.pairActs_iff j).mp ha).2
    · split at hpair
      · refine .of_low ?_ ?_ <;> rw [hpair] <;> split
        · rfl
        · next hhalt => exact hlow fun hs => hhalt hs.1
        · exact hinv.deadTime_le
        · exact hinv.deadTime_le
      · next hafter =>
        have hrun : s.tbs[b].state = .running := by
          cases hb : s.tbs[b].state with
          | running => rfl
          | halted => exact absurd hb hafter
        split at hpair
        · next hforced =>
          have hf := hlow fun hs => Bool.false_ne_true (hs.2.symm.trans hforced)
          exact .of_low (by rw [hpair]; exact hf) (by rw [hpair]; exact hinv.deadTime_le)
        · next hforced =>
          refine .acting ?_ (hacts.mpr ⟨hrun, Bool.eq_false_iff.mpr hforced⟩)
          rw [hpair]
          split
          · exact hinv.restart he _
          · split
            · exact hinv
            · exact hinv.edge he _
  · have heven := (hchans _).trans ((if_neg (evenOf_ne hj)).trans (if_neg (evenOf_ne_oddOf j k)))
    exact (h j).of_chan (hothers j hj) htbs heven

theorem chConfig (h : s.PairsSound) (c : Fin 16) (b : Fin 4) (mode : Mode) (safe : Bool) :
    ((s.configChannel c b mode safe).rebindPair c s).PairsSound := by
  by_cases hc : isEven c = true ∧ s.pairs[pairOf c].enabled = true
  · obtain ⟨heven, he⟩ := hc
    rw [(isEven_iff c).mp heven]
    exact h.rebindEven he b mode safe
  · have halone : (isEven c && s.pairs[pairOf c].enabled) = false :=
      Bool.eq_false_iff.mpr fun hb => hc (Bool.and_eq_true_iff.mp hb)
    rw [State.configChannel_alone halone]
    intro k
    by_cases hk : evenOf k = c
    · subst hk
      have hdisabled : s.pairs[k].enabled = false := by
        simpa only [isEven_evenOf, pairOf_evenOf, Bool.true_and] using halone
      exact .of_low ((h k).inv.low_of_disabled hdisabled) (h k).inv.deadTime_le
    · have heven : (s.modChan c fun ch => { ch with tb := b, mode := mode, safe := safe }).chans[evenOf k] =
          s.chans[evenOf k] := (State.modChan_get _ _ _ _).trans (if_neg hk)
      exact (h k).of_chan rfl rfl heven

/-- A pair changed, sound by itself; the other pairs are as they were. -/
theorem modPairAt (h : s.PairsSound) {k : Fin 8} {f : Pair → Pair} (hk : (s.modPair k f).PairSound k) :
    (s.modPair k f).PairsSound := fun j => by
  by_cases hj : j = k
  · subst hj; exact hk
  · have hpair : (s.modPair k f).pairs[j] = s.pairs[j] := (State.modPair_get _ _ _ _).trans (if_neg hj)
    exact (h j).of_chan hpair rfl rfl

/-- No pair logic rests on an odd channel. -/
theorem modOdd (h : s.PairsSound) (k : Fin 8) (g : Channel → Channel) : (s.modChan (oddOf k) g).PairsSound := fun j =>
  (h j).of_chan rfl rfl ((State.modChan_get _ _ _ _).trans (if_neg (evenOf_ne_oddOf j k)))

theorem coverRetested (h : s.PairsSound) (k : Fin 8) : (s.coverRetested k).PairsSound :=
  forEach_induction State.PairsSound _ _ (fun f _ _ hu => hu.coverChannel f _) s h

/-- Enabled or disabled, a pair starts from low; an enabled one that acts is then restarted (R79, R80). -/
theorem configPair (h : s.PairsSound) (k : Fin 8) (enable : Bool) {d : Nat} (hd : d ≤ 63) :
    (s.configPair k enable d).PairsSound := by
  have hget (f : Pair → Pair) : (s.modPair k f).pairs[k] = f s.pairs[k] := (State.modPair_get _ _ _ _).trans (if_pos rfl)
  unfold State.configPair
  split
  · next hdisabled =>
    have hlow := (h k).inv.low_of_disabled hdisabled
    refine State.PairsSound.coverRetested
      (State.PairsSound.restartPair ((h.modPairAt (.of_low ?_ ?_)).modOdd k _) k) k <;> rw [hget]
    · exact congrArg (fun p : Pair => { p with enabled := true, deadTime := d }) hlow
    · exact hd
  · next he =>
    refine h.modPairAt ⟨?_, fun hn => ?_⟩ <;> rw [hget]
    · exact (h k).inv.setDeadTime he hd
    · have hacts : (s.modPair k fun pr => pr.setDeadTime d).pairActs k = s.pairActs k :=
        State.pairActs_congr rfl rfl rfl (by rw [hget, Pair.setDeadTime_enabled])
      have hlow := (h k).low (hacts.symm.trans hn)
      rw [Pair.setDeadTime_of_low hlow]
      exact congrArg (fun p : Pair => { p with deadTime := d }) hlow
  · refine State.PairsSound.coverRetested ((h.modPairAt (.of_low ?_ ?_)).modOdd k _) k <;> rw [hget]
    · rfl
    · exact hd
  · next hdisabled =>
    have hlow := (h k).inv.low_of_disabled hdisabled
    refine h.modPairAt (.of_low ?_ ?_) <;> rw [hget]
    · exact congrArg (fun p : Pair => { p with deadTime := d }) hlow
    · exact hd

end State.PairsSound

/-! ## Every step -/

theorem State.riseDue_acts {s : State} {k : Fin 8} {count : Option Nat} {x : Bool} (h : s.riseDue k count x = true) :
    s.pairActs k = true ∧ ∃ n, count = some n := by
  unfold State.riseDue at h
  cases count with
  | none => simp at h
  | some n =>
    simp only [Bool.and_eq_true] at h
    obtain ⟨⟨⟨ha, -⟩, -⟩, -⟩ := h
    exact ⟨ha, n, rfl⟩

theorem pairsSound_standingInvariant : StandingInvariant State.PairsSound where
  keep h g := h.standing g
  reset cause s k := by
    have hpair : (s.afterReset cause).pairs[k] = .reset := Vector.getElem_replicate _
    refine .of_low ?_ ?_ <;> rw [hpair]
    · rfl
    · exact Nat.zero_le _
  boundaryPair c starts x _ before h := h.boundaryPair c starts x before
  tickPairs b _ old h := h.tickPairs b old
  riseA k s hdue h := by
    obtain ⟨ha, n, hn⟩ := State.riseDue_acts hdue
    have hend := (h k).inv.riseAAt hn ((h k).enabled ha) s.pairs[k].deadTime
    rw [Pair.riseAAt, if_pos (Nat.le_refl _)] at hend
    exact h.modPair ha rfl hend
  riseB k s hdue h := by
    obtain ⟨ha, n, hn⟩ := State.riseDue_acts hdue
    have hend := (h k).inv.riseBAt hn ((h k).enabled ha) s.pairs[k].deadTime
    rw [Pair.riseBAt, if_pos (Nat.le_refl _)] at hend
    exact h.modPair ha rfl hend
  activate f _ h := h.activateFault f
  tbStop set _ h := h.tbStop set
  chConfig c tb mode safe _ _ h := h.chConfig c tb mode safe
  pairConfig k enable _ _ range _ h := h.configPair k enable range
  faultClear f _ _ _ h := h.clearFault f

/-- Settles O53: a pair changes while its logic acts, and goes low when it stops acting. -/
theorem stepKeepsThePairs : Obligations.StepKeepsThePairs := fun s t hinv hlow ht =>
  t.pairsSound_iff.mp (pairsSound_standingInvariant.blockInvariant.step (s.pairsSound_iff.mpr ⟨hinv, hlow⟩) ht)

end Sys2Proof.Machine

namespace Sys2Proof.Machine

/-! # O54: Laws 11 and 12

A source acts on a channel by forcing and stopping it, and what several sources do to one channel adds up
(`Channel.act_act`). So a channel comes out of a latching, and out of a PAIR_CONFIG that tests it anew, acted on once. -/

/-! ## What the sources do to a channel (R104, R105) -/

/-- A channel acted on: forced, and FAULTED with its pending control dropped unless it is locked or FAULTED already. -/
def Channel.act (ch : Channel) (force stop : Bool) : Channel :=
  { ch with
    forced := ch.forced || force
    pendingControl := if stop && !ch.locked && ch.state != .faulted then .none else ch.pendingControl
    state := if stop && !ch.locked then .faulted else ch.state }

theorem Channel.act_none (ch : Channel) : ch.act false false = ch := by
  simp [Channel.act]

theorem Channel.act_act (ch : Channel) (force stop force' stop' : Bool) :
    (ch.act force stop).act force' stop' = ch.act (force || force') (stop || stop') := by
  simp only [Channel.act, Channel.mk.injEq, Bool.or_assoc, true_and, and_true]
  by_cases hl : ch.locked = true
  · simp [hl]
  · constructor <;> cases stop <;> cases stop' <;> simp [hl]

/-- Neither a locked nor a FAULTED channel is stopped (R105). -/
theorem Channel.act_of_locked {ch : Channel} (h : ch.locked = true) : ch.act false true = ch := by
  cases ch
  simp_all [Channel.act]

theorem Channel.act_of_faulted {ch : Channel} (h : ch.state = .faulted) : ch.act false true = ch := by
  cases ch
  simp_all [Channel.act]

theorem Channel.act_faulted (ch : Channel) (force stop : Bool) :
    (ch.act force stop).state = .faulted ↔ (stop = true ∧ ch.locked = false) ∨ ch.state = .faulted := by
  unfold Channel.act
  cases stop <;> cases ch.locked <;> simp

/-- A locked channel is not stopped (R105). -/
theorem Channel.Vacant.act {ch : Channel} (h : ch.Vacant) (hl : ch.locked = true) (force stop : Bool) :
    (ch.act force stop).Vacant := by
  obtain ⟨hidle, hrest⟩ := h
  refine ⟨?_, hrest⟩
  simp [Channel.act, hl, hidle]

theorem State.forcePair_chans (c : Fin 16) (s : State) : (s.forcePair c).chans = s.chans := by
  unfold State.forcePair
  split <;> rfl

theorem State.forceChannel_get (c : Fin 16) (s : State) (x : Fin 16) : (s.forceChannel c).chans[x] =
    if x = c then { s.chans[c] with forced := true } else s.chans[x] := by
  rw [State.forceChannel, State.forcePair_chans, State.modChan_get]

theorem State.stopChannel_get (c : Fin 16) (s : State) (x : Fin 16) : (s.stopChannel c).chans[x] =
    if x = c then s.chans[c].act false true else s.chans[x] := by
  unfold State.stopChannel
  by_cases hx : x = c
  · subst hx
    rw [if_pos rfl]
    split
    · next h =>
      rcases Bool.or_eq_true_iff.mp h with hl | hf
      · exact (Channel.act_of_locked hl).symm
      · exact (Channel.act_of_faulted (beq_iff_eq.mp hf)).symm
    · next h =>
      have hact : s.chans[x].locked = false ∧ s.chans[x].state ≠ .faulted := by simpa using h
      rw [State.modChan_get, if_pos rfl, State.withdraw_chans]
      simp [Channel.act, hact.1, hact.2, -Fin.getElem_fin]
  · rw [if_neg hx]
    split
    · rfl
    · rw [State.modChan_get, if_neg hx, State.withdraw_chans]

/-- A source acts on a channel as its action says. -/
theorem State.coverChannel_get (f : Fin 4) (c : Fin 16) (s : State) (x : Fin 16) : (s.coverChannel f c).chans[x] =
    if x = c then s.chans[c].act (s.faults[f].action != .none) (s.faults[f].action == .stop) else s.chans[x] := by
  have hforced : ({ s.chans[c] with forced := true } : Channel) = s.chans[c].act true false := by
    simp [Channel.act]
  unfold State.coverChannel
  split
  · next ha =>
    rw [ha]
    split
    · next hx => rw [hx]; exact s.chans[c].act_none.symm
    · rfl
  · next ha =>
    rw [ha, State.forceChannel_get, hforced]
    rfl
  · next ha =>
    rw [ha, State.stopChannel_get, State.forceChannel_get, State.forceChannel_get, if_pos rfl, hforced, Channel.act_act]
    split
    · rfl
    · rfl

/-- The sources are the same, and the same pairs are enabled. -/
structure SameSources (s t : State) : Prop where
  faults : t.faults = s.faults
  enabled : ∀ k : Fin 8, t.pairs[k].enabled = s.pairs[k].enabled

namespace SameSources

variable {s t u : State}

theorem refl (s : State) : SameSources s s := ⟨rfl, fun _ => rfl⟩

theorem trans (h : SameSources s t) (g : SameSources t u) : SameSources s u :=
  ⟨g.faults.trans h.faults, fun k => (g.enabled k).trans (h.enabled k)⟩

theorem modChan (c : Fin 16) (f : Channel → Channel) (s : State) : SameSources s (s.modChan c f) := ⟨rfl, fun _ => rfl⟩

theorem modPair {k : Fin 8} {f : Pair → Pair} (h : (f s.pairs[k]).enabled = s.pairs[k].enabled) :
    SameSources s (s.modPair k f) := by
  refine ⟨rfl, fun j => ?_⟩
  rw [State.modPair_get]
  split
  · next hj => subst hj; exact h
  · rfl

theorem covers (h : SameSources s t) (f : Fin 4) (c : Fin 16) : t.covers f c = s.covers f c :=
  State.covers_congr h.faults h.enabled f c

theorem covered (h : SameSources s t) (c : Fin 16) : t.covered c = s.covered c := State.covered_congr h.covers c

theorem coveredByStop (h : SameSources s t) (c : Fin 16) : t.coveredByStop c = s.coveredByStop c :=
  State.coveredByStop_congr h.covers (fun f _ _ => by rw [h.faults]) c

theorem forEach {α : Type} (xs : List α) {f : α → State → State} (h : ∀ x u, SameSources u (f x u)) (s : State) :
    SameSources s (forEach xs f s) :=
  forEach_induction (SameSources s) xs f (fun x _ u hu => hu.trans (h x u)) s (.refl s)

end SameSources

theorem forceChannel_sources (c : Fin 16) (s : State) : SameSources s (s.forceChannel c) := by
  unfold State.forceChannel State.forcePair
  split
  · exact (SameSources.modChan c _ s).trans (.modPair rfl)
  · exact .modChan c _ s

theorem stopChannel_sources (c : Fin 16) (s : State) : SameSources s (s.stopChannel c) := by
  unfold State.stopChannel
  split
  · exact .refl s
  · obtain ⟨v, hv⟩ := s.withdraw_frame c
    rw [hv]
    exact ⟨rfl, fun _ => rfl⟩

theorem coverChannel_sources (f : Fin 4) (c : Fin 16) (s : State) : SameSources s (s.coverChannel f c) := by
  unfold State.coverChannel
  split
  · exact .refl s
  · exact forceChannel_sources c s
  · exact (forceChannel_sources c s).trans (stopChannel_sources c _)

theorem restartPair_sources (k : Fin 8) (s : State) : SameSources s (s.restartPair k) := by
  unfold State.restartPair
  split
  · exact .modPair (Pair.restart_enabled _ _)
  · exact .refl s

/-- One source acts on a list of channels. -/
theorem forEach_coverChannel_get (f : Fin 4) (cs : List (Fin 16)) (s : State) (x : Fin 16) :
    (forEach cs (State.coverChannel f) s).chans[x] =
      if x ∈ cs then s.chans[x].act (s.faults[f].action != .none) (s.faults[f].action == .stop) else s.chans[x] := by
  induction cs generalizing s with
  | nil => rfl
  | cons c cs ih =>
    rw [forEach_cons, ih, (coverChannel_sources f c s).faults, State.coverChannel_get]
    by_cases hx : x = c
    · subst hx
      simp only [if_true, List.mem_cons, true_or]
      split
      · rw [Channel.act_act, Bool.or_self, Bool.or_self]
      · rfl
    · simp only [hx, if_false, List.mem_cons, false_or]

/-- A list of sources acts on one channel. -/
theorem forEach_sources_get (fs : List (Fin 4)) (c : Fin 16) (s : State) (x : Fin 16) :
    (forEach fs (fun f => State.coverChannel f c) s).chans[x] =
      if x = c then s.chans[c].act (fs.any fun f => s.faults[f].action != .none)
        (fs.any fun f => s.faults[f].action == .stop)
      else s.chans[x] := by
  induction fs generalizing s with
  | nil =>
    split
    · next hx => rw [hx]; exact s.chans[c].act_none.symm
    · rfl
  | cons f fs ih =>
    rw [forEach_cons, ih, (coverChannel_sources f c s).faults, State.coverChannel_get, State.coverChannel_get]
    split
    · rw [if_pos rfl, Channel.act_act]
      rfl
    · rfl

/-- A PAIR_CONFIG that tests the odd channel anew acts on it as the sources that now cover it do, and on no other
channel (log entry 20). -/
theorem State.coverRetested_get (k : Fin 8) (s : State) (x : Fin 16) : (s.coverRetested k).chans[x] =
    if x = oddOf k then s.chans[oddOf k].act (s.covered (oddOf k)) (s.coveredByStop (oddOf k)) else s.chans[x] := by
  have hforce : ((List.finRange 4).filter fun f => s.covers f (oddOf k)).any (fun f => s.faults[f].action != .none) =
      s.covered (oddOf k) := by
    rw [List.any_filter]
    refine congrArg (List.any (List.finRange 4)) (funext fun f => ?_)
    unfold State.covers
    cases s.faults[f].action != .none <;> simp
  rw [State.coverRetested, forEach_sources_get, hforce, List.any_filter]
  rfl

theorem coverRetested_sources (k : Fin 8) (s : State) : SameSources s (s.coverRetested k) :=
  .forEach _ (fun f u => coverChannel_sources f _ u) s

/-- A source latched with its report, before it acts (R102). -/
def State.raiseFault (f : Fin 4) (s : State) : State :=
  (s.offer (.faultRaised f s.faults[f].chans s.faults[f].action)).modFault f fun src => { src with latched := true }

theorem State.latchFault_eq (f : Fin 4) (s : State) : s.latchFault f =
    forEach ((List.finRange 16).filter ((s.raiseFault f).covers f)) (State.coverChannel f) (s.raiseFault f) := rfl

/-- A latching acts on the channels that its source comes to cover (R104, R105). -/
theorem State.latchFault_get (f : Fin 4) (s : State) (x : Fin 16) : (s.latchFault f).chans[x] =
    s.chans[x].act ((s.raiseFault f).covers f x) ((s.raiseFault f).covers f x && s.faults[f].action == .stop) := by
  have haction : (s.raiseFault f).faults[f].action = s.faults[f].action := by
    rw [State.raiseFault, State.modFault_get, if_pos rfl]
    rfl
  rw [State.latchFault_eq, forEach_coverChannel_get, haction]
  simp only [List.mem_filter, List.mem_finRange, true_and]
  cases hc : (s.raiseFault f).covers f x with
  | false =>
    rw [if_neg Bool.false_ne_true, Bool.false_and]
    exact s.chans[x].act_none.symm
  | true =>
    have hact : (s.faults[f].action != .none) = true := by
      rw [← haction]
      unfold State.covers at hc
      exact (Bool.and_eq_true_iff.mp (Bool.and_eq_true_iff.mp hc).1).2
    rw [if_pos rfl, Bool.true_and, hact]
    rfl

theorem latchFault_sources (f : Fin 4) (s : State) : SameSources (s.raiseFault f) (s.latchFault f) :=
  .forEach _ (coverChannel_sources f) _

theorem Channel.lockable_iff (ch : Channel) : ch.lockable = true ↔
    ch.state = .idle ∧ ch.queue = [] ∧ ch.pendingLevel = none ∧ ch.replacement = none := by
  simp only [Channel.lockable, Bool.and_eq_true, beq_iff_eq, List.isEmpty_iff, Option.isNone_iff_eq_none, and_assoc]

/-- A pair enabled, its odd channel locked and bound with it, before its signals are restarted (R79). -/
def State.lockPair (k : Fin 8) (d : Nat) (s : State) : State :=
  (s.modPair k fun pr => { pr with enabled := true, deadTime := d }).modChan (oddOf k) fun ch =>
    { ch with locked := true, tb := s.chans[evenOf k].tb }

theorem State.enablePair_eq (k : Fin 8) (d : Nat) (s : State) : s.enablePair k d = (s.lockPair k d).restartPair k := rfl

theorem State.lockPair_pairs (k : Fin 8) (d : Nat) (s : State) :
    (s.lockPair k d).pairs = (s.modPair k fun pr => { pr with enabled := true, deadTime := d }).pairs := rfl

theorem enablePair_sources (k : Fin 8) (d : Nat) (s : State) : SameSources (s.lockPair k d) (s.enablePair k d) :=
  restartPair_sources k _

theorem State.enablePair_get (k : Fin 8) (d : Nat) (s : State) (x : Fin 16) : (s.enablePair k d).chans[x] =
    if x = oddOf k then { s.chans[oddOf k] with locked := true, tb := s.chans[evenOf k].tb } else s.chans[x] := by
  obtain ⟨v, hv⟩ := (s.lockPair k d).restartPair_frame k
  have hlock : (s.lockPair k d).chans[x] = if x = oddOf k then
      { s.chans[oddOf k] with locked := true, tb := s.chans[evenOf k].tb } else s.chans[x] :=
    State.modChan_get (oddOf k) x (fun ch => { ch with locked := true, tb := s.chans[evenOf k].tb }) (s.modPair k _)
  rw [State.enablePair_eq, hv]
  exact hlock

theorem State.enablePair_enabled (k : Fin 8) (d : Nat) (s : State) (j : Fin 8) :
    (s.enablePair k d).pairs[j].enabled = if j = k then true else s.pairs[j].enabled := by
  rw [(enablePair_sources k d s).enabled, State.lockPair_pairs, State.modPair_get]
  split <;> rfl

theorem State.disablePair_get (k : Fin 8) (d : Nat) (s : State) (x : Fin 16) : (s.disablePair k d).chans[x] =
    if x = oddOf k then { s.chans[oddOf k] with locked := false } else s.chans[x] := State.modChan_get (oddOf k) x _ _

theorem State.disablePair_enabled (k : Fin 8) (d : Nat) (s : State) (j : Fin 8) :
    (s.disablePair k d).pairs[j].enabled = if j = k then false else s.pairs[j].enabled := by
  rw [State.disablePair, State.modChan_pairs, State.modPair_get]
  split <;> rfl

/-! ## Laws 11 and 12 pair by pair and channel by channel -/

/-- Law 11 for one pair (R79). -/
structure State.Locks (s : State) (k : Fin 8) : Prop where
  even : s.chans[evenOf k].locked = false
  odd : s.chans[oddOf k].locked = s.pairs[k].enabled
  vacant : s.pairs[k].enabled = true → s.chans[oddOf k].Vacant
  bound : s.pairs[k].enabled = true → s.chans[oddOf k].tb = s.chans[evenOf k].tb

/-- Law 12 and R105 for one channel. -/
structure State.Obeys (s : State) (c : Fin 16) : Prop where
  forced : s.covered c = true → s.chans[c].forced = true
  faulted : s.chans[c].state = .faulted ↔ s.coveredByStop c = true ∧ s.chans[c].locked = false

structure State.CoverSound (s : State) : Prop where
  locks : ∀ k : Fin 8, s.Locks k
  obeys : ∀ c : Fin 16, s.Obeys c

theorem State.coverSound_iff (s : State) : s.CoverSound ↔ s.CoverageInv := by
  constructor
  · rintro ⟨locks, obeys⟩
    refine ⟨fun k => ⟨(locks k).even, (locks k).odd, fun he => ?_⟩, fun c => (obeys c).forced, fun c => (obeys c).faulted⟩
    obtain ⟨hidle, hqueue, hlist, hlevel⟩ := (locks k).vacant he
    exact ⟨hidle, hqueue, hlist, hlevel, (locks k).bound he⟩
  · rintro ⟨hlock, hforced, hfaulted⟩
    refine ⟨fun k => ?_, fun c => ⟨hforced c, hfaulted c⟩⟩
    obtain ⟨heven, hodd, hon⟩ := hlock k
    refine ⟨heven, hodd, fun he => ?_, fun he => ?_⟩ <;> obtain ⟨hidle, hqueue, hlist, hlevel, htb⟩ := hon he
    · exact ⟨hidle, hqueue, hlist, hlevel⟩
    · exact htb

theorem State.covered_iff_covers (s : State) (c : Fin 16) : s.covered c = true ↔ ∃ f, s.covers f c = true := by
  simp [State.covered]

theorem State.coveredByStop_iff (s : State) (c : Fin 16) :
    s.coveredByStop c = true ↔ ∃ f : Fin 4, s.covers f c = true ∧ s.faults[f].action = .stop := by
  simp [State.coveredByStop]

theorem eq_evenOf_or_oddOf (c : Fin 16) : c = evenOf (pairOf c) ∨ c = oddOf (pairOf c) := by
  simp only [evenOf, oddOf, pairOf, Fin.ext_iff]
  omega

theorem pairOf_oddOf (k : Fin 8) : pairOf (oddOf k) = k := by
  simp only [oddOf, pairOf, Fin.ext_iff]
  omega

namespace State.CoverSound

variable {s t : State}

theorem standing (h : s.CoverSound) (g : SameStanding s t) : t.CoverSound where
  locks k := by
    obtain ⟨heven, hodd, hvacant, hbound⟩ := h.locks k
    have hpairs : t.pairs[k].enabled = s.pairs[k].enabled := by rw [g.pairs]
    have hodd' := g.chans (oddOf k)
    have heven' := g.chans (evenOf k)
    refine ⟨heven'.locked.trans heven, by rw [hodd'.locked, hpairs, hodd], fun he => ?_, fun he => ?_⟩ <;>
      rw [hpairs] at he
    · exact hodd'.vacant (hodd.trans he) (hvacant he)
    · rw [hodd'.tb, heven'.tb, hbound he]
  obeys c := by
    obtain ⟨hforced, hfaulted⟩ := h.obeys c
    have hchan := g.chans c
    refine ⟨fun hc => ?_, ?_⟩
    · rw [g.covered] at hc
      exact g.forced c hc (hforced hc)
    · rw [hchan.faulted, hfaulted, g.coveredByStop, hchan.locked]

/-- Bindings, modes and safe levels change, an enabled pair keeping its channels on one timebase (R38). -/
theorem rebind (h : s.CoverSound) (g : SameSources s t)
    (hc : ∀ x : Fin 16, ∃ b mode safe, t.chans[x] = { s.chans[x] with tb := b, mode := mode, safe := safe })
    (hb : ∀ k : Fin 8, s.pairs[k].enabled = true → t.chans[oddOf k].tb = t.chans[evenOf k].tb) : t.CoverSound where
  locks k := by
    obtain ⟨heven, hodd, hvacant, -⟩ := h.locks k
    have he := g.enabled k
    obtain ⟨_, _, _, hc0⟩ := hc (evenOf k)
    obtain ⟨_, _, _, hc1⟩ := hc (oddOf k)
    refine ⟨by rw [hc0]; exact heven, by rw [hc1, he]; exact hodd, fun hon => ?_, fun hon => hb k (he ▸ hon)⟩
    rw [hc1]
    exact hvacant (he ▸ hon)
  obeys c := by
    obtain ⟨hforced, hfaulted⟩ := h.obeys c
    obtain ⟨_, _, _, hc⟩ := hc c
    refine ⟨fun hcov => ?_, ?_⟩ <;> rw [hc]
    · exact hforced ((g.covered c).symm.trans hcov)
    · rw [g.coveredByStop]
      exact hfaulted

/-- Pairs change their signals alone. -/
theorem ofPairs (h : s.CoverSound) (g : SameSources s t) (hc : t.chans = s.chans) : t.CoverSound :=
  h.rebind g (fun x => ⟨s.chans[x].tb, s.chans[x].mode, s.chans[x].safe, by rw [hc]⟩)
    fun k he => by rw [hc]; exact (h.locks k).bound he

/-! ## Sources -/

/-- Channels are acted on as the sources that come to cover them say. -/
theorem ofAct (h : s.CoverSound) (he : ∀ k : Fin 8, t.pairs[k].enabled = s.pairs[k].enabled)
    {force stop : Fin 16 → Bool} (hc : ∀ x : Fin 16, t.chans[x] = s.chans[x].act (force x) (stop x))
    (hf : ∀ x, t.covered x = true → force x = true ∨ s.covered x = true)
    (hs : ∀ x, t.coveredByStop x = true ↔ stop x = true ∨ s.coveredByStop x = true) : t.CoverSound where
  locks k := by
    obtain ⟨heven, hodd, hvacant, hbound⟩ := h.locks k
    refine ⟨by rw [hc]; exact heven, by rw [hc, he]; exact hodd, fun hon => ?_, fun hon => ?_⟩ <;> rw [he] at hon
    · rw [hc]
      exact (hvacant hon).act (hodd.trans hon) _ _
    · rw [hc, hc]
      exact hbound hon
  obeys x := by
    obtain ⟨hforced, hfaulted⟩ := h.obeys x
    refine ⟨fun hcov => ?_, ?_⟩ <;> rw [hc]
    · rcases hf x hcov with hx | hx
      · simp [Channel.act, hx]
      · simp [Channel.act, hforced hx, -Fin.getElem_fin]
    · rw [Channel.act_faulted, hfaulted, hs, ← or_and_right]
      rfl

theorem latchFault (h : s.CoverSound) (f : Fin 4) : (s.latchFault f).CoverSound := by
  have hsources := latchFault_sources f s
  have hfault (i : Fin 4) : (s.raiseFault f).faults[i] =
      if i = f then { s.faults[f] with latched := true } else s.faults[i] := State.modFault_get f i _ _
  have hother (i : Fin 4) (hi : i ≠ f) (x : Fin 16) : (s.raiseFault f).covers i x = s.covers i x := by
    rw [State.covers, hfault, if_neg hi]
    rfl
  have hgrows (x : Fin 16) (hx : s.covers f x = true) : (s.raiseFault f).covers f x = true := by
    rw [State.covers, hfault, if_pos rfl]
    simp only [State.covers, Bool.and_eq_true, Bool.true_and] at hx ⊢
    exact ⟨hx.1.2, hx.2⟩
  have haction (i : Fin 4) : (s.raiseFault f).faults[i].action = s.faults[i].action := by
    rw [hfault]
    split
    · next hi => rw [hi]
    · rfl
  refine h.ofAct (fun k => hsources.enabled k) (State.latchFault_get f s) (fun x hx => ?_) fun x => ?_
  · rw [hsources.covered, State.covered_iff_covers] at hx
    obtain ⟨i, hi⟩ := hx
    by_cases hif : i = f
    · subst hif; exact .inl hi
    · exact .inr ((s.covered_iff_covers x).mpr ⟨i, (hother i hif x).symm.trans hi⟩)
  · rw [hsources.coveredByStop, State.coveredByStop_iff, State.coveredByStop_iff]
    simp only [haction, Bool.and_eq_true, beq_iff_eq]
    constructor
    · rintro ⟨i, hi, hstop⟩
      by_cases hif : i = f
      · subst hif; exact .inl ⟨hi, hstop⟩
      · exact .inr ⟨i, (hother i hif x).symm.trans hi, hstop⟩
    · rintro (⟨hi, hstop⟩ | ⟨i, hi, hstop⟩)
      · exact ⟨f, hi, hstop⟩
      · refine ⟨i, ?_, hstop⟩
        by_cases hif : i = f
        · subst hif; exact hgrows x hi
        · exact (hother i hif x).trans hi

theorem activateFault (h : s.CoverSound) (f : Fin 4) : (s.activateFault f).CoverSound := by
  have hactive : (s.modFault f fun src => { src with active := true }).CoverSound := h.standing (.modFault rfl rfl rfl)
  unfold State.activateFault
  dsimp only
  split
  · exact hactive
  · exact hactive.latchFault f

/-- A channel returns from FAULTED where no latched STOP source covers it any longer (R107). -/
theorem clearFault (h : s.CoverSound) (f : Fin 4) : (s.clearFault f).CoverSound := by
  have hfault (i : Fin 4) : (s.unlatchFault f).faults[i] =
      if i = f then { s.faults[f] with latched := false } else s.faults[i] :=
    State.modFault_get f i (fun src => { src with latched := false }) s
  have hcovers (i : Fin 4) (x : Fin 16) (hx : (s.unlatchFault f).covers i x = true) : s.covers i x = true := by
    rw [State.covers, hfault] at hx
    split at hx
    · exact absurd hx Bool.false_ne_true
    · exact hx
  have haction (i : Fin 4) : (s.unlatchFault f).faults[i].action = s.faults[i].action := by
    rw [hfault]
    split
    · next hi => rw [hi]
    · rfl
  have hstop (x : Fin 16) (hx : (s.unlatchFault f).coveredByStop x = true) : s.coveredByStop x = true := by
    rw [State.coveredByStop_iff] at hx ⊢
    obtain ⟨i, hi, hstop⟩ := hx
    exact ⟨i, hcovers i x hi, (haction i).symm.trans hstop⟩
  have hget (x : Fin 16) : (s.clearFault f).chans[x] =
      if s.chans[x].state = .faulted ∧ (s.unlatchFault f).coveredByStop x = false then s.chans[x].returned
      else s.chans[x] := State.mapChans_get x _ _
  have hsources : SameSources (s.unlatchFault f) (s.clearFault f) := ⟨State.mapChans_faults _ _, fun _ => by
    rw [State.clearFault_eq, State.mapChans_pairs]⟩
  have henabled (k : Fin 8) : (s.clearFault f).pairs[k].enabled = s.pairs[k].enabled := hsources.enabled k
  have hkept (x : Fin 16) : (s.clearFault f).chans[x].locked = s.chans[x].locked ∧
      (s.clearFault f).chans[x].tb = s.chans[x].tb ∧ (s.clearFault f).chans[x].forced = s.chans[x].forced := by
    rw [hget]
    split <;> exact ⟨rfl, rfl, rfl⟩
  refine ⟨fun k => ?_, fun x => ?_⟩
  · obtain ⟨heven, hodd, hvacant, hbound⟩ := h.locks k
    obtain ⟨hl0, htb0, -⟩ := hkept (evenOf k)
    obtain ⟨hl1, htb1, -⟩ := hkept (oddOf k)
    refine ⟨hl0.trans heven, by rw [hl1, henabled, hodd], fun he => ?_, fun he => ?_⟩ <;> rw [henabled] at he
    · obtain ⟨hidle, hrest⟩ := hvacant he
      rw [hget, if_neg]
      · exact ⟨hidle, hrest⟩
      · rw [hidle]
        exact fun hf => ChState.noConfusion hf.1
    · rw [htb0, htb1, hbound he]
  · obtain ⟨hforced, hfaulted⟩ := h.obeys x
    obtain ⟨hlocked, -, hf⟩ := hkept x
    refine ⟨fun hcov => ?_, ?_⟩
    · rw [hsources.covered, State.covered_iff_covers] at hcov
      obtain ⟨i, hi⟩ := hcov
      exact hf.trans (hforced ((s.covered_iff_covers x).mpr ⟨i, hcovers i x hi⟩))
    · rw [hlocked, hsources.coveredByStop, hget]
      split
      · next hret =>
        refine iff_of_false ?_ fun hs => Bool.false_ne_true (hret.2.symm.trans hs.1)
        unfold Channel.returned
        dsimp only
        split <;> exact ChState.noConfusion
      · next hstay =>
        rw [hfaulted]
        refine and_congr_left fun hl => ⟨fun hs => ?_, hstop x⟩
        exact Bool.eq_true_of_not_eq_false fun hno => hstay ⟨hfaulted.mpr ⟨hs, hl⟩, hno⟩

/-! ## The requests that bind and lock -/

/-- CH_CONFIG of the even channel of an enabled pair takes the odd channel with it (R38). -/
theorem rebindEven (h : s.CoverSound) {k : Fin 8} (he : s.pairs[k].enabled = true) (b : Fin 4) (mode : Mode)
    (safe : Bool) : ((s.configChannel (evenOf k) b mode safe).rebindPair (evenOf k) s).CoverSound := by
  obtain ⟨v, w, hframe⟩ := State.configAndRebind_frame (evenOf k) b mode safe s
  obtain ⟨hchans, hothers, hpair⟩ := State.configEven he (b := b) (mode := mode) (safe := safe) rfl
  generalize (s.configChannel (evenOf k) b mode safe).rebindPair (evenOf k) s = t at *
  refine h.rebind ⟨by rw [hframe], fun j => ?_⟩ (fun x => ?_) fun j hj => ?_
  · by_cases hj : j = k
    · subst hj
      rw [hpair, Pair.rebound_enabled]
    · rw [hothers j hj]
  · rw [hchans]
    split
    · next hx => subst hx; exact ⟨b, mode, safe, rfl⟩
    · split
      · next hx => subst hx; exact ⟨b, _, _, rfl⟩
      · exact ⟨_, _, _, rfl⟩
  · rw [hchans, hchans, if_neg (evenOf_ne_oddOf k j ·.symm)]
    by_cases hjk : j = k
    · subst hjk
      rw [if_pos rfl, if_pos rfl]
    · have hodd : oddOf j ≠ oddOf k := fun heq => hjk (by rw [← pairOf_oddOf j, heq, pairOf_oddOf])
      rw [if_neg hodd, if_neg (evenOf_ne hjk), if_neg (evenOf_ne_oddOf j k)]
      exact (h.locks j).bound hj

theorem chConfig (h : s.CoverSound) (c : Fin 16) (b : Fin 4) (mode : Mode) (safe : Bool)
    (unlocked : s.chans[c].locked = false) : ((s.configChannel c b mode safe).rebindPair c s).CoverSound := by
  by_cases hc : isEven c = true ∧ s.pairs[pairOf c].enabled = true
  · obtain ⟨heven, he⟩ := hc
    rw [(isEven_iff c).mp heven]
    exact h.rebindEven he b mode safe
  · have halone : (isEven c && s.pairs[pairOf c].enabled) = false :=
      Bool.eq_false_iff.mpr fun hb => hc (Bool.and_eq_true_iff.mp hb)
    have hdisabled : s.pairs[pairOf c].enabled = false := by
      rcases eq_evenOf_or_oddOf c with heven | hodd
      · rwa [(isEven_iff c).mpr heven, Bool.true_and] at halone
      · exact (h.locks (pairOf c)).odd.symm.trans
          ((congrArg (fun x : Fin 16 => s.chans[x].locked) hodd).symm.trans unlocked)
    have hne (k : Fin 8) (hk : s.pairs[k].enabled = true) : pairOf c ≠ k := by
      rintro rfl
      exact Bool.false_ne_true (hdisabled.symm.trans hk)
    rw [State.configChannel_alone halone]
    have hget (x : Fin 16) : (s.modChan c fun ch => { ch with tb := b, mode := mode, safe := safe }).chans[x] =
        if x = c then { s.chans[c] with tb := b, mode := mode, safe := safe } else s.chans[x] := State.modChan_get c x _ s
    refine State.CoverSound.rebind (t := s.modChan c fun ch => { ch with tb := b, mode := mode, safe := safe }) h
      ⟨rfl, fun _ => rfl⟩ (fun x => ?_) fun k hk => ?_
    · rw [hget]
      split
      · next hx => subst hx; exact ⟨_, _, _, rfl⟩
      · exact ⟨_, _, _, rfl⟩
    · rw [hget, hget, if_neg fun heq => hne k hk (by rw [← heq, pairOf_oddOf]),
        if_neg fun heq => hne k hk (by rw [← heq, pairOf_evenOf])]
      exact (h.locks k).bound hk

/-- A pair is enabled or disabled, its odd channel vacant and locked accordingly, and the odd channel is then acted on
as the sources that now cover it say (R79, R80, R103; log entry 20). -/
theorem retest {k : Fin 8} (h : s.CoverSound) (hf : t.faults = s.faults)
    (he : ∀ j : Fin 8, j ≠ k → t.pairs[j].enabled = s.pairs[j].enabled)
    (hc : ∀ x : Fin 16, x ≠ oddOf k → t.chans[x] = s.chans[x]) (hl : t.chans[oddOf k].locked = t.pairs[k].enabled)
    (hv : t.chans[oddOf k].Vacant) (hb : t.pairs[k].enabled = true → t.chans[oddOf k].tb = t.chans[evenOf k].tb) :
    (t.coverRetested k).CoverSound := by
  have hsources := coverRetested_sources k t
  have hget := t.coverRetested_get k
  have hodd := (hget (oddOf k)).trans (if_pos rfl)
  have hother (x : Fin 16) (hx : x ≠ oddOf k) : (t.coverRetested k).chans[x] = s.chans[x] :=
    ((hget x).trans (if_neg hx)).trans (hc x hx)
  have hcovers (f : Fin 4) (x : Fin 16) (hx : x ≠ oddOf k) : t.covers f x = s.covers f x := by
    have htested : t.testedChannel x = s.testedChannel x := by
      unfold State.testedChannel
      by_cases hk : pairOf x = k
      · have heven : x = evenOf (pairOf x) := (eq_evenOf_or_oddOf x).resolve_right fun ho => hx (by rw [ho, hk])
        rw [← heven, ite_self, ite_self]
      · rw [he _ hk]
    simp only [State.covers, htested, hf]
  refine ⟨fun j => ?_, fun x => ?_⟩
  · have heven : (t.coverRetested k).chans[evenOf j] = s.chans[evenOf j] := hother _ (evenOf_ne_oddOf j k)
    by_cases hj : j = k
    · subst hj
      refine ⟨by rw [heven]; exact (h.locks j).even, ?_, fun hon => ?_, fun hon => ?_⟩
      · rw [hodd, hsources.enabled]
        exact hl
      · rw [hsources.enabled] at hon
        rw [hodd]
        exact hv.act (hl.trans hon) _ _
      · rw [hsources.enabled] at hon
        rw [hodd, heven, ← hc _ (evenOf_ne_oddOf j j)]
        exact hb hon
    · have hne : oddOf j ≠ oddOf k := fun heq => hj (by rw [← pairOf_oddOf j, heq, pairOf_oddOf])
      have henabled := (hsources.enabled j).trans (he j hj)
      obtain ⟨heven', hodd', hvacant, hbound⟩ := h.locks j
      refine ⟨by rw [heven]; exact heven', by rw [hother _ hne, henabled]; exact hodd', fun hon => ?_, fun hon => ?_⟩
      · rw [hother _ hne]
        exact hvacant (henabled ▸ hon)
      · rw [hother _ hne, heven]
        exact hbound (henabled ▸ hon)
  · by_cases hx : x = oddOf k
    · subst hx
      refine ⟨fun hcov => ?_, ?_⟩ <;> rw [hodd]
      · rw [← hsources.covered, hcov]
        exact Bool.or_true _
      · rw [Channel.act_faulted, hsources.coveredByStop, hv.1]
        exact or_iff_left ChState.noConfusion
    · obtain ⟨hforced, hfaulted⟩ := h.obeys x
      have hcov : (t.coverRetested k).covered x = s.covered x := by
        rw [hsources.covered]
        simp only [State.covered, hcovers _ x hx]
      have hstop : (t.coverRetested k).coveredByStop x = s.coveredByStop x := by
        rw [hsources.coveredByStop]
        simp only [State.coveredByStop, hcovers _ x hx, hf]
      refine ⟨fun hc => ?_, ?_⟩ <;> rw [hother x hx]
      · exact hforced (hcov.symm.trans hc)
      · rw [hstop]
        exact hfaulted

theorem enablePair (h : s.CoverSound) (k : Fin 8) (d : Nat) (free : s.chans[oddOf k].lockable = true) :
    ((s.enablePair k d).coverRetested k).CoverSound := by
  have hvacant : s.chans[oddOf k].Vacant := by
    obtain ⟨hidle, hqueue, hlevel, hlist⟩ := s.chans[oddOf k].lockable_iff.mp free
    exact ⟨hidle, hqueue, hlist, hlevel⟩
  have hchan := s.enablePair_get k d
  have henabled := s.enablePair_enabled k d
  refine h.retest (enablePair_sources k d s).faults (fun j hj => (henabled j).trans (if_neg hj)) (fun x hx => (hchan x).trans (if_neg hx))
    ?_ ?_ fun _ => ?_
  · rw [henabled, hchan, if_pos rfl, if_pos rfl]
  · rw [hchan, if_pos rfl]
    exact hvacant
  · rw [hchan, hchan, if_pos rfl, if_neg (evenOf_ne_oddOf k k)]

theorem disablePair (h : s.CoverSound) (k : Fin 8) (d : Nat) (he : s.pairs[k].enabled = true) :
    ((s.disablePair k d).coverRetested k).CoverSound := by
  have hchan := s.disablePair_get k d
  have henabled := s.disablePair_enabled k d
  refine h.retest rfl (fun j hj => (henabled j).trans (if_neg hj)) (fun x hx => (hchan x).trans (if_neg hx))
    ?_ ?_ fun hon => ?_
  · rw [henabled, hchan, if_pos rfl, if_pos rfl]
  · rw [hchan, if_pos rfl]
    exact (h.locks k).vacant he
  · rw [henabled, if_pos rfl] at hon
    exact absurd hon Bool.false_ne_true

theorem configPair (h : s.CoverSound) (k : Fin 8) (enable : Bool) (d : Nat)
    (free : enable = true → s.pairs[k].enabled = false → s.chans[oddOf k].lockable = true) :
    (s.configPair k enable d).CoverSound := by
  unfold State.configPair
  split
  · next hdisabled => exact h.enablePair k d (free rfl hdisabled)
  · exact h.ofPairs (.modPair (Pair.setDeadTime_enabled _ d)) rfl
  · next he => exact h.disablePair k d he
  · exact h.ofPairs (.modPair rfl) rfl

end State.CoverSound

/-! ## Every step -/

/-- At reset no source is latched and no pair is enabled. -/
theorem State.coverSound_afterReset (cause : ResetCause) (s : State) : (s.afterReset cause).CoverSound := by
  have hchan (c : Fin 16) : (s.afterReset cause).chans[c] = .reset := Vector.getElem_replicate _
  have hpair (k : Fin 8) : (s.afterReset cause).pairs[k] = .reset := Vector.getElem_replicate _
  have hlatched : ∀ f : Fin 4, (s.afterReset cause).faults[f].latched = false := fun f => by
    match f with
    | 0 => rfl
    | 1 => rfl
    | 2 => rfl
    | 3 => rfl
  have hcovers (f : Fin 4) (c : Fin 16) : (s.afterReset cause).covers f c = false := by
    rw [State.covers, hlatched]
    rfl
  refine ⟨fun k => ?_, fun c => ?_⟩
  · refine ⟨by rw [hchan]; rfl, by rw [hchan, hpair]; rfl, fun he => ?_, fun he => ?_⟩ <;>
    · rw [hpair] at he
      exact absurd he Bool.false_ne_true
  · refine ⟨fun hc => ?_, iff_of_false ?_ fun hs => ?_⟩
    · obtain ⟨f, hf⟩ := (State.covered_iff_covers _ c).mp hc
      exact absurd ((hcovers f c).symm.trans hf) Bool.false_ne_true
    · rw [hchan]
      exact ChState.noConfusion
    · obtain ⟨f, hf, -⟩ := (State.coveredByStop_iff _ c).mp hs.1
      exact absurd ((hcovers f c).symm.trans hf) Bool.false_ne_true

theorem coverSound_standingInvariant : StandingInvariant State.CoverSound where
  keep h g := h.standing g
  reset := State.coverSound_afterReset
  boundaryPair c starts x s before h := by
    have hreaches := State.boundaryPair_reaches (B := noTb) (P := fun _ => False) c starts x s before
    exact h.ofPairs ⟨hreaches.faults, hreaches.enabled⟩ (s.boundaryPair_chans c starts x before)
  tickPairs b s old h := by
    refine h.ofPairs ⟨State.mapPairs_faults _ s, fun k => ?_⟩ (State.mapPairs_chans _ s)
    rw [State.tickPairs, State.mapPairs_get]
    split
    · exact Pair.tick_enabled _ _ _
    · rfl
  riseA k s _ h := h.ofPairs (.modPair rfl) rfl
  riseB k s _ h := h.ofPairs (.modPair rfl) rfl
  activate f _ h := h.activateFault f
  tbStop set s h := by
    refine h.ofPairs ⟨rfl, fun k => ?_⟩ rfl
    rw [State.haltPairs, State.mapPairs_get]
    split <;> rfl
  chConfig c tb mode safe _ unlocked h := h.chConfig c tb mode safe unlocked
  pairConfig k enable d _ _ free h := h.configPair k enable d free
  faultClear f _ _ _ h := h.clearFault f

/-- Settles O54: sources act on the channels they come to cover, and a lock comes with its pair. -/
theorem stepKeepsTheCoverage : Obligations.StepKeepsTheCoverage := fun s t h ht =>
  t.coverSound_iff.mp (coverSound_standingInvariant.blockInvariant.step (s.coverSound_iff.mpr h) ht)

end Sys2Proof.Machine

namespace Sys2Proof.Machine

/-! # O32: edges and rise delays -/

/-! ## What the pair logic does, case by case (R81 to R83) -/

namespace Pair

variable {p : Pair}

theorem edge_immediate (hd : p.deadTime = 0) :
    p.edge true = { p with a := true, b := false, riseA := none, riseB := none } ∧
      p.edge false = { p with a := false, b := true, riseA := none, riseB := none } := ⟨if_pos hd, if_pos hd⟩

theorem edge_delayed (hd : p.deadTime ≠ 0) :
    p.edge true = { p with b := false, riseA := some 0, riseB := none } ∧
      p.edge false = { p with a := false, riseA := none, riseB := some 0 } := ⟨if_neg hd, if_neg hd⟩

theorem tick_of_eq (p : Pair) (x : Bool) : p.tick x x = p.countTick := if_pos rfl

theorem tick_of_ne {x y : Bool} (h : x ≠ y) : p.tick x y = p.edge y := if_neg h

theorem countTick_of_riseA {n : Nat} (h : p.riseA = some n) : p.countTick = p.riseAAt (n + 1) := by
  rw [countTick, h]

theorem countTick_of_riseB {n : Nat} (hA : p.riseA = none) (hB : p.riseB = some n) :
    p.countTick = p.riseBAt (n + 1) := by
  rw [countTick, hA, hB]

theorem countTick_of_none (hA : p.riseA = none) (hB : p.riseB = none) : p.countTick = p := by
  rw [countTick, hA, hB]

/-- A delay of A that the new dead time does not end keeps its count. -/
theorem setDeadTime_of_riseA {n : Nat} (h : p.riseA = some n) (d : Nat) : p.setDeadTime d =
    if d ≤ n then { p with deadTime := d, a := true, riseA := none } else { p with deadTime := d } := by
  cases p
  subst h
  rfl

theorem setDeadTime_of_riseB {n : Nat} (hA : p.riseA = none) (hB : p.riseB = some n) (d : Nat) : p.setDeadTime d =
    if d ≤ n then { p with deadTime := d, b := true, riseB := none } else { p with deadTime := d } := by
  cases p
  subst hA hB
  rfl

end Pair

/-! ## The row of a rise delay's expiry (R82; log entry 5) -/

/-- A signal's rise is due in words: the pair acts, the coming tick is no boundary and leaves the basic signal at the
delay's level, and the delay comes to D. -/
theorem State.riseDue_iff (s : State) (k : Fin 8) (delay : Option Nat) (x : Bool) :
    s.riseDue k delay x = true ↔
      s.pairs[k].enabled = true ∧ s.tbs[s.chans[evenOf k].tb].state = .running ∧ s.chans[evenOf k].forced = false ∧
        s.tbs[s.chans[evenOf k].tb].counter + 1 ≠ s.tbs[s.chans[evenOf k].tb].period ∧
        s.chans[evenOf k].signalOn s.tbs[s.chans[evenOf k].tb].count = x ∧
        ∃ n, delay = some n ∧ s.pairs[k].deadTime ≤ n + 1 := by
  simp only [State.riseDue, Bool.and_eq_true, Bool.not_eq_true', beq_iff_eq, State.pairActs_iff, Timebase.atEnd,
    decide_eq_false_iff_not, and_assoc, ne_eq]
  cases delay with
  | none => simp
  | some n => simp

/-- The basic signal after a tick of a RUNNING timebase (R17). -/
theorem Channel.signalOn_count (ch : Channel) {tb : Timebase} (h : tb.state = .running) :
    ch.signalOn tb.count = decide ((if tb.counter = 4095 then 0 else tb.counter + 1) < ch.width tb.slot) := by
  have hrun : tb.count.state = .running := h
  rw [Channel.signalOn, hrun]
  rfl

/-- A tick leaves the basic signal at one level only: not both signals rise. -/
theorem State.riseDue_exclusive {s : State} {k : Fin 8} {delay delay' : Option Nat} (h : s.riseDue k delay false = true) :
    s.riseDue k delay' true = false := by
  obtain ⟨-, -, -, -, hlow, -⟩ := (s.riseDue_iff k delay false).mp h
  refine Bool.eq_false_iff.mpr fun hhigh => ?_
  obtain ⟨-, -, -, -, hhigh, -⟩ := (s.riseDue_iff k delay' true).mp hhigh
  exact Bool.false_ne_true (hlow.symm.trans hhigh)

/-- What the row does before the part settles. -/
def State.takeRiseDelay (k : Fin 8) (s : State) : State :=
  if s.riseDue k s.pairs[k].riseA true then s.modPair k fun p => { p with a := true, riseA := none }
  else if s.riseDue k s.pairs[k].riseB false then s.modPair k fun p => { p with b := true, riseB := none }
  else s

theorem exec_pairRiseDelayExpiry (k : Fin 8) (s : State) :
    exec (.pairRiseDelayExpiry k) s = s.event (State.takeRiseDelay k) := rfl

theorem pairRiseDelayExpiry_of_riseA {s : State} {k : Fin 8} (hheld : s.held = false) (hs : s.Settled)
    (hdue : s.riseDue k s.pairs[k].riseA true = true) :
    exec (.pairRiseDelayExpiry k) s = .next (s.modPair k fun p => { p with a := true, riseA := none }) := by
  rw [exec_pairRiseDelayExpiry]
  refine State.event_of_settled hheld ?_ (hs.of_eq rfl rfl rfl rfl)
  rw [State.takeRiseDelay, if_pos hdue]

theorem pairRiseDelayExpiry_of_riseB {s : State} {k : Fin 8} (hheld : s.held = false) (hs : s.Settled)
    (hdue : s.riseDue k s.pairs[k].riseB false = true) :
    exec (.pairRiseDelayExpiry k) s = .next (s.modPair k fun p => { p with b := true, riseB := none }) := by
  have hnot := Bool.eq_false_iff.mp (State.riseDue_exclusive (delay' := s.pairs[k].riseA) hdue)
  rw [exec_pairRiseDelayExpiry]
  refine State.event_of_settled hheld ?_ (hs.of_eq rfl rfl rfl rfl)
  rw [State.takeRiseDelay, if_neg hnot, if_pos hdue]

theorem pairRiseDelayExpiry_of_not_due {s : State} {k : Fin 8} (hheld : s.held = false) (hs : s.Settled)
    (hA : ¬s.riseDue k s.pairs[k].riseA true = true) (hB : ¬s.riseDue k s.pairs[k].riseB false = true) :
    exec (.pairRiseDelayExpiry k) s = .next s := by
  rw [exec_pairRiseDelayExpiry]
  refine State.event_of_settled hheld ?_ hs
  rw [State.takeRiseDelay, if_neg hA, if_neg hB]

/-- Settles O32: the pair logic case by case, and the expiry's row by which delay, if any, is due
(`State.riseDue_iff`). -/
theorem pairEdgesAndRiseDelays : Obligations.PairEdgesAndRiseDelays := by
  refine ⟨fun p => ⟨Pair.edge_immediate, Pair.edge_delayed, fun n hA x => ?_, fun n hA hB x => ?_, fun hA hB x => ?_,
    fun _ _ => Pair.tick_of_ne, fun d _ hA => Pair.setDeadTime_of_riseA hA d,
    fun d _ hA hB => Pair.setDeadTime_of_riseB hA hB d, fun _ => rfl⟩, fun s k hheld hs => ?_⟩
  · rw [p.tick_of_eq, Pair.countTick_of_riseA hA, Pair.riseAAt]
  · rw [p.tick_of_eq, Pair.countTick_of_riseB hA hB, Pair.riseBAt]
  · rw [p.tick_of_eq, Pair.countTick_of_none hA hB]
  · intro c tb next due dueA dueB
    have hsignal (hrun : tb.state = .running) :
        s.chans[c].signalOn tb.count = decide (next.counter < s.chans[c].width tb.slot) :=
      s.chans[c].signalOn_count hrun
    have hdue {delay : Option Nat} {x : Bool} {y : Prop}
        (hxy : tb.state = .running → (s.chans[c].signalOn tb.count = x ↔ y)) :
        s.riseDue k delay x = true ↔ due delay y := by
      rw [State.riseDue_iff]
      exact and_congr_right fun _ => and_congr_right fun hrun => and_congr_right fun _ => and_congr_right fun _ =>
        and_congr_left fun _ => hxy hrun
    have hA : s.riseDue k s.pairs[k].riseA true = true ↔ dueA :=
      hdue fun hrun => by rw [hsignal hrun, decide_eq_true_iff]
    have hB : s.riseDue k s.pairs[k].riseB false = true ↔ dueB :=
      hdue fun hrun => by rw [hsignal hrun, decide_eq_false_iff_not, Nat.not_lt]
    exact ⟨fun h => pairRiseDelayExpiry_of_riseA hheld hs (hA.mpr h),
      fun h => pairRiseDelayExpiry_of_riseB hheld hs (hB.mpr h),
      fun h h' => pairRiseDelayExpiry_of_not_due hheld hs (h ∘ hA.mp) (h' ∘ hB.mp)⟩

end Sys2Proof.Machine

namespace Sys2Proof.Machine

/-! # O23: PAIR_CONFIG -/

/-! ## The fields and the checks (R78) -/

theorem perform_pairConfig (seq : Byte) (p : List Byte) (s : State) :
    perform (requestFrame seq RequestKind.pairConfig.code p) s = takePairConfig p s := rfl

theorem pairConfig_fields {n enable d : Nat} (hn : n < 256) (he : enable < 256) (hd : d < 256) :
    let p := le8 n ++ le8 enable ++ le8 d
    p.length = 3 ∧ u8 p 0 = n ∧ u8 p 1 = enable ∧ u8 p 2 = d :=
  ⟨rfl, toNat_ofNat_byte hn, toNat_ofNat_byte he, toNat_ofNat_byte hd⟩

theorem takePairConfig_badArg {p : List Byte} (hlen : p.length = 3) (h : 7 < u8 p 0 ∨ 1 < u8 p 1 ∨ 63 < u8 p 2)
    (s : State) : takePairConfig p s = refuse .badArg s := by
  rw [takePairConfig, if_neg (not_not.mpr hlen)]
  split
  · next k enable d hk he hd =>
    rcases h with h | h | h
    · exact absurd (hk.symm.trans (element?_none h)) (by simp)
    · exact absurd (he.symm.trans (mark?_none h)) (by simp)
    · exact absurd (hd.symm.trans (within?_none (by omega))) (by simp)
  · rfl

theorem Pair.edge_deadTime (p : Pair) (x : Bool) : (p.edge x).deadTime = p.deadTime := by
  unfold Pair.edge
  cases x <;> dsimp only <;> split <;> rfl

theorem Pair.setDeadTime_deadTime (p : Pair) (d : Nat) : (p.setDeadTime d).deadTime = d := by
  unfold Pair.setDeadTime Pair.riseAAt Pair.riseBAt
  dsimp only
  split
  · split <;> rfl
  · split
    · split <;> rfl
    · rfl

theorem restartPair_deadTime (k j : Fin 8) (s : State) : (s.restartPair k).pairs[j].deadTime = s.pairs[j].deadTime := by
  unfold State.restartPair
  split
  · rw [State.modPair_get]
    split
    · next hj => subst hj; exact Pair.edge_deadTime _ _
    · rfl
  · rfl

theorem isEven_oddOf (k : Fin 8) : isEven (oddOf k) = false := by
  refine Bool.eq_false_iff.mpr fun h => evenOf_ne_oddOf k k ?_
  rw [(isEven_iff _).mp h, pairOf_oddOf]

/-- A source that acts on an odd channel acts on no pair (R84). -/
theorem State.coverChannel_pairs (f : Fin 4) {c : Fin 16} (hc : isEven c = false) (s : State) :
    (s.coverChannel f c).pairs = s.pairs := by
  have hforce : (s.forceChannel c).pairs = s.pairs := by
    rw [State.forceChannel, State.forcePair, hc, Bool.false_and, if_neg Bool.false_ne_true]
    rfl
  have hstop (u : State) : (u.stopChannel c).pairs = u.pairs := by
    obtain ⟨v, hv⟩ := u.withdraw_frame c
    rw [State.stopChannel, hv]
    split <;> rfl
  unfold State.coverChannel
  split
  · rfl
  · exact hforce
  · exact (hstop _).trans hforce

theorem State.coverRetested_pairs (k : Fin 8) (s : State) : (s.coverRetested k).pairs = s.pairs :=
  forEach_induction (fun t => t.pairs = s.pairs) _ _
    (fun f _ u hu => (State.coverChannel_pairs f (isEven_oddOf k) u).trans hu) s rfl

/-- The payload of the response is the request's enable flag and dead time (Table 57). -/
theorem State.configPair_payload (k : Fin 8) (enable : Bool) (d : Nat) (s : State) :
    (s.configPair k enable d).pairs[k].payload = flagByte enable ++ le8 d := by
  have hget (f : Pair → Pair) : (s.modPair k f).pairs[k] = f s.pairs[k] := (State.modPair_get _ _ _ _).trans (if_pos rfl)
  have hpayload {p : Pair} (he : p.enabled = enable) (hd : p.deadTime = d) : p.payload = flagByte enable ++ le8 d := by
    rw [Pair.payload, he, hd]
  unfold State.configPair
  split
  · rw [State.coverRetested_pairs]
    refine hpayload ?_ ?_
    · rw [State.enablePair_enabled, if_pos rfl]
    · rw [State.enablePair_eq, restartPair_deadTime, State.lockPair_pairs, hget]
  · next he =>
    rw [hget]
    exact hpayload ((Pair.setDeadTime_enabled _ d).trans he) (Pair.setDeadTime_deadTime _ d)
  · rw [State.coverRetested_pairs, State.disablePair, State.modChan_pairs, hget]
    rfl
  · next he =>
    rw [hget]
    exact hpayload he rfl

/-- PAIR_CONFIG with its fields spelt from values in range: refused where a disabled pair would lock a channel that has
something to do (R79). -/
theorem takePairConfig_spelt (k : Fin 8) (enable : Bool) {d : Nat} (hd : d ≤ 63) (s : State) :
    takePairConfig (le8 k.val ++ flagByte enable ++ le8 d) s =
      if enable && !s.pairs[k].enabled && !s.chans[oddOf k].lockable then refuse .state s
      else accept .ok (flagByte enable ++ le8 d) (s.configPair k enable d) := by
  have henable : enable.toNat < 2 := enable.toNat_lt
  obtain ⟨hlen, h0, h1, h2⟩ := pairConfig_fields (n := k.val) (enable := enable.toNat) (d := d)
    (by omega) (by omega) (by omega)
  rw [takePairConfig, flagByte, if_neg (not_not.mpr hlen), h0, h1, h2, element?_val, mark?_toNat,
    within?_of ⟨Nat.zero_le _, hd⟩]
  dsimp only
  rw [State.configPair_payload]
  rfl

/-! ## Which sources reach the odd channel (R103) -/

/-- A latched source with an action names the channel. -/
def State.Reached (s : State) (x : Fin 16) : Prop :=
  ∃ f : Fin 4, s.faults[f].latched = true ∧ s.faults[f].action ≠ .none ∧ s.faults[f].chans.has x = true

theorem State.covers_iff (s : State) (f : Fin 4) (c : Fin 16) : s.covers f c = true ↔
    s.faults[f].latched = true ∧ s.faults[f].action ≠ .none ∧ s.faults[f].chans.has (s.testedChannel c) = true := by
  simp only [State.covers, Bool.and_eq_true, bne_iff_ne, and_assoc]

theorem State.covered_iff_reached (s : State) (c : Fin 16) : s.covered c = true ↔ s.Reached (s.testedChannel c) := by
  simp only [State.covered_iff_covers, State.covers_iff, State.Reached]

/-- The odd channel of an enabled pair is tested by the membership of the even one (R103). -/
theorem State.testedChannel_oddOf (s : State) (k : Fin 8) :
    s.testedChannel (oddOf k) = if s.pairs[k].enabled then evenOf k else oddOf k := by
  simp only [State.testedChannel, pairOf_oddOf]

/-- The arrival of a frame changes no source but whether SILENCE is active. -/
theorem State.heard_fault (s : State) (f : Fin 4) : s.heard.faults[f].latched = s.faults[f].latched ∧
    s.heard.faults[f].action = s.faults[f].action ∧ s.heard.faults[f].chans = s.faults[f].chans := by
  have hfault : s.heard.faults[f] =
      if f = 2 then { s.faults[(2 : Fin 4)] with active := false } else s.faults[f] :=
    State.modFault_get 2 f (fun src => { src with active := false }) s
  rw [hfault]
  split
  · next h => subst h; exact ⟨rfl, rfl, rfl⟩
  · exact ⟨rfl, rfl, rfl⟩

theorem State.reached_heard (s : State) (x : Fin 16) : s.heard.Reached x ↔ s.Reached x := by
  refine exists_congr fun f => ?_
  obtain ⟨hl, ha, hc⟩ := s.heard_fault f
  rw [hl, ha, hc]

theorem State.coverRetested_of_not_covered {k : Fin 8} {s : State} (h : s.covered (oddOf k) = false) :
    s.coverRetested k = s := by
  have hnone : (List.finRange 4).filter (fun f => s.covers f (oddOf k)) = [] :=
    List.filter_eq_nil_iff.mpr fun f _ hf => Bool.false_ne_true (h.symm.trans ((s.covered_iff_covers _).mpr ⟨f, hf⟩))
  rw [State.coverRetested, hnone]
  rfl

/-- The sources that are latched when a pair is enabled reach its odd channel by the even one. -/
theorem State.enablePair_reached {k : Fin 8} {d : Nat} {s : State} {x : Fin 16} :
    (s.enablePair k d).Reached x ↔ s.Reached x := by
  unfold State.Reached
  rw [(enablePair_sources k d s).faults]
  rfl

theorem State.enablePair_covered (k : Fin 8) (d : Nat) (s : State) :
    (s.enablePair k d).covered (oddOf k) = true ↔ s.Reached (evenOf k) := by
  rw [State.covered_iff_reached, State.testedChannel_oddOf, State.enablePair_enabled, if_pos rfl,
    if_pos rfl, State.enablePair_reached]

theorem State.disablePair_covered (k : Fin 8) (d : Nat) (s : State) :
    (s.disablePair k d).covered (oddOf k) = true ↔ s.Reached (oddOf k) := by
  rw [State.covered_iff_reached, State.testedChannel_oddOf, State.disablePair_enabled, if_pos rfl, if_neg Bool.false_ne_true]
  rfl

/-! ## The effect of each request (R79, R80, R82; log entry 20) -/

theorem State.configPair_enable {k : Fin 8} {s : State} (h : s.pairs[k].enabled = false) (d : Nat) :
    s.configPair k true d = (s.enablePair k d).coverRetested k := by
  simp only [State.configPair, h]

theorem State.configPair_setDeadTime {k : Fin 8} {s : State} (h : s.pairs[k].enabled = true) (d : Nat) :
    s.configPair k true d = s.modPair k fun pr => pr.setDeadTime d := by
  simp only [State.configPair, h]

theorem State.configPair_disable {k : Fin 8} {s : State} (h : s.pairs[k].enabled = true) (d : Nat) :
    s.configPair k false d = (s.disablePair k d).coverRetested k := by
  simp only [State.configPair, h]

theorem State.configPair_store {k : Fin 8} {s : State} (h : s.pairs[k].enabled = false) (d : Nat) :
    s.configPair k false d = s.modPair k fun pr => { pr with deadTime := d } := by
  simp only [State.configPair, h]

/-- No source reaches the even channel: the odd one is locked and bound with it, and nothing acts on it. -/
theorem State.configPair_enable_unreached {k : Fin 8} {s : State} (h : s.pairs[k].enabled = false)
    (hr : ¬s.Reached (evenOf k)) (d : Nat) : s.configPair k true d = (s.lockPair k d).restartPair k := by
  rw [State.configPair_enable h, State.coverRetested_of_not_covered, State.enablePair_eq]
  exact Bool.eq_false_iff.mpr (hr ∘ (s.enablePair_covered k d).mp)

theorem State.configPair_disable_unreached {k : Fin 8} {s : State} (h : s.pairs[k].enabled = true)
    (hr : ¬s.Reached (oddOf k)) (d : Nat) : s.configPair k false d = s.disablePair k d := by
  rw [State.configPair_disable h, State.coverRetested_of_not_covered]
  exact Bool.eq_false_iff.mpr (hr ∘ (s.disablePair_covered k d).mp)

/-- A locked channel is forced, not stopped (R105). -/
theorem Channel.act_locked {ch : Channel} (h : ch.locked = true) (force stop : Bool) :
    ch.act force stop = { ch with forced := ch.forced || force } := by
  cases ch
  simp_all [Channel.act]

/-- A source reaches the even channel: the odd one is locked, so it is forced and stays IDLE. -/
theorem State.configPair_enable_reached {k : Fin 8} {s : State} (h : s.pairs[k].enabled = false)
    (hr : s.Reached (evenOf k)) (d : Nat) (x : Fin 16) : (s.configPair k true d).chans[x] =
      if x = oddOf k then { s.chans[oddOf k] with locked := true, forced := true, tb := s.chans[evenOf k].tb }
      else s.chans[x] := by
  rw [State.configPair_enable h, State.coverRetested_get, State.enablePair_get, State.enablePair_get, if_pos rfl,
    (s.enablePair_covered k d).mpr hr, Channel.act_locked rfl, Bool.or_true]
  split <;> rfl

/-- A source reaches the odd channel at the disabling of its pair: the channel is unlocked and acted on. -/
theorem State.configPair_disable_reached {k : Fin 8} {s : State} (h : s.pairs[k].enabled = true)
    (hr : s.Reached (oddOf k)) (d : Nat) (x : Fin 16) : (s.configPair k false d).chans[x] =
      if x = oddOf k then
        { s.chans[oddOf k] with locked := false }.act true ((s.disablePair k d).coveredByStop (oddOf k))
      else s.chans[x] := by
  rw [State.configPair_disable h, State.coverRetested_get, State.disablePair_get, State.disablePair_get, if_pos rfl,
    (s.disablePair_covered k d).mpr hr]
  split <;> rfl

theorem State.disablePair_coveredByStop {k : Fin 8} {f : Fin 4} {s : State} (hl : s.faults[f].latched = true)
    (ha : s.faults[f].action = .stop) (hc : s.faults[f].chans.has (oddOf k) = true) (d : Nat) :
    (s.disablePair k d).coveredByStop (oddOf k) = true := by
  have hact : s.faults[f].action ≠ .none := ha ▸ Action.noConfusion
  refine (State.coveredByStop_iff _ _).mpr ⟨f, (State.covers_iff _ _ _).mpr ⟨hl, hact, ?_⟩, ha⟩
  rw [State.testedChannel_oddOf, State.disablePair_enabled, if_pos rfl, if_neg Bool.false_ne_true]
  exact hc

/-! ## The answers -/

theorem pairConfig_refused {s : State} {seq : Byte} {k : Fin 8} {d : Nat}
    (hready : s.Ready (.pairConfig seq (le8 k.val ++ le8 1 ++ le8 d))) (hd : d ≤ 63) (h : s.pairs[k].enabled = false)
    (hl : s.chans[oddOf k].lockable = false) : Refused (.pairConfig seq (le8 k.val ++ le8 1 ++ le8 d)) s .state := by
  refine refused_of_perform (k := .pairConfig) hready ((takePairConfig_spelt k true hd s.heard).trans (if_pos ?_))
  rw [State.heard_pairs, State.heard_chans, h, hl]
  rfl

/-- PAIR_CONFIG accepted: unless it enables a disabled pair, its odd channel may have something to do. -/
theorem pairConfig_answered {s t : State} {seq : Byte} {k : Fin 8} {enable : Bool} {d : Nat}
    (hready : s.Ready (.pairConfig seq (le8 k.val ++ flagByte enable ++ le8 d))) (hd : d ≤ 63)
    (hl : enable = true → s.pairs[k].enabled = false → s.chans[oddOf k].lockable = true)
    (ht : s.heard.configPair k enable d = t) :
    Answered (.pairConfig seq (le8 k.val ++ flagByte enable ++ le8 d)) s .ok (flagByte enable ++ le8 d) .none t := by
  subst ht
  refine accepted_of_perform (k := .pairConfig) hready ((takePairConfig_spelt k enable hd s.heard).trans (if_neg ?_))
  simp only [Bool.and_eq_true, Bool.not_eq_true']
  rintro ⟨⟨he, hp⟩, hfree⟩
  exact Bool.false_ne_true (hfree.symm.trans (hl he hp))

/-- Settles O23: the fields are read back from the payload; the odd channel is then acted on as the sources that reach
it by the newly tested membership say. -/
theorem pairConfigEffect : Obligations.PairConfigEffect := by
  refine ⟨?_, ?_, ?_⟩
  · intro s seq n enable d hn he hd c hready
    refine ⟨fun hbad => ?_, fun k hk henable hle => ?_⟩
    · obtain ⟨hlen, h0, h1, h2⟩ := pairConfig_fields hn he hd
      refine refused_of_perform (k := .pairConfig) hready ?_
      rw [perform_pairConfig]
      exact takePairConfig_badArg hlen (by rwa [h0, h1, h2]) s.heard
    · subst hk
      intro odd free reached
      have hfree : odd.lockable = true ↔ free := odd.lockable_iff
      refine ⟨fun h hon hbusy => ?_, fun h hon hlock hr => ?_, fun h hon => ?_, fun h hoff hr => ?_, fun h hoff => ?_⟩
      · subst hon
        exact pairConfig_refused hready hle h (Bool.eq_false_iff.mpr (hbusy ∘ hfree.mp))
      · subst hon
        exact pairConfig_answered (enable := true) hready hle (fun _ _ => hfree.mpr hlock)
          (State.configPair_enable_unreached (s := s.heard) h (fun hr' => hr ((s.reached_heard _).mp hr')) d)
      · subst hon
        exact pairConfig_answered (enable := true) hready hle
          (fun _ hp => absurd (hp.symm.trans h) Bool.false_ne_true) (State.configPair_setDeadTime (s := s.heard) h d)
      · subst hoff
        exact pairConfig_answered (enable := false) hready hle nofun
          (State.configPair_disable_unreached (s := s.heard) h (fun hr' => hr ((s.reached_heard _).mp hr')) d)
      · subst hoff
        exact pairConfig_answered (enable := false) hready hle nofun (State.configPair_store (s := s.heard) h d)
  · intro s seq k d f c hready h hl ha hc
    have hget := State.configPair_disable_reached (s := s.heard) h ((s.reached_heard _).mpr ⟨f, hl, ha, hc⟩) d.val
    obtain ⟨hl', ha', hc'⟩ := s.heard_fault f
    refine ⟨_, pairConfig_answered (enable := false) hready (by omega) nofun rfl, ?_, ?_,
      fun hstop => ?_, fun x hx => (hget x).trans (if_neg hx)⟩ <;> rw [hget, if_pos rfl]
    · exact Bool.or_true _
    · rfl
    · exact (Channel.act_faulted _ _ _).mpr (.inl
        ⟨State.disablePair_coveredByStop (hl'.trans hl) (ha'.trans hstop) (hc' ▸ hc) d.val, rfl⟩)
  · intro s seq k d f c odd hready h hidle hqueue hlevel hlist hl ha hc
    have hget := State.configPair_enable_reached (s := s.heard) h ((s.reached_heard _).mpr ⟨f, hl, ha, hc⟩) d.val
    exact ⟨_, pairConfig_answered (enable := true) hready (by omega)
      (fun _ _ => odd.lockable_iff.mpr ⟨hidle, hqueue, hlevel, hlist⟩) rfl, (hget _).trans (if_pos rfl),
      fun x hx => (hget x).trans (if_neg hx)⟩

end Sys2Proof.Machine

namespace Sys2Proof.Machine

/-! # O48: the pin arbiter and the driven value -/

/-! ## The arbiter (R90) -/

/-- The candidates of a pin: the enabled entries that name it. -/
def State.Candidate (s : State) (o : Fin 20) (e : Fin 24) : Prop :=
  s.routes[e].enabled = true ∧ s.routes[e].pin = o

/-- Of two candidates the one of higher priority wins, of equal ones the one with the lower number. -/
def State.Outranks (s : State) (e j : Fin 24) : Prop :=
  s.routes[j].priority < s.routes[e].priority ∨ (s.routes[j].priority = s.routes[e].priority ∧ e ≤ j)

/-- The arbiter's outcome over the entries `xs`: the candidate that outranks every one of them, or none without one. -/
def State.WinsAmong (s : State) (o : Fin 20) (xs : List (Fin 24)) : Option (Fin 24) → Prop
  | none => ∀ e ∈ xs, ¬s.Candidate o e
  | some e => e ∈ xs ∧ s.Candidate o e ∧ ∀ j ∈ xs, s.Candidate o j → s.Outranks e j

section arbiter

variable {s : State} {o : Fin 20} {b e : Fin 24} {best : Option (Fin 24)} {xs : List (Fin 24)}

theorem State.Outranks.refl (s : State) (e : Fin 24) : s.Outranks e e := .inr ⟨rfl, le_rfl⟩

theorem State.Outranks.trans_lt {j : Fin 24} (h : s.Outranks b j)
    (hlt : s.routes[b].priority < s.routes[e].priority) : s.Outranks e j :=
  .inl (h.elim (·.trans hlt) fun ⟨heq, _⟩ => heq ▸ hlt)

theorem State.outranks_of_not_lt (hle : b ≤ e) (h : ¬s.routes[b].priority < s.routes[e].priority) : s.Outranks b e :=
  (not_lt.mp h).lt_or_eq.imp_right (⟨·, hle⟩)

theorem State.candidate_iff :
    (s.routes[e].enabled && s.routes[e].pin == o) = true ↔ s.Candidate o e := by
  rw [Bool.and_eq_true, beq_iff_eq, State.Candidate]

theorem betterEntry_of_not_candidate (h : ¬s.Candidate o e) : betterEntry s o best e = best :=
  if_neg (h ∘ State.candidate_iff.mp)

theorem betterEntry_none (h : s.Candidate o e) : betterEntry s o none e = some e :=
  if_pos (State.candidate_iff.mpr h)

theorem betterEntry_some (h : s.Candidate o e) : betterEntry s o (some b) e =
    if s.routes[b].priority < s.routes[e].priority then some e else some b :=
  if_pos (State.candidate_iff.mpr h)

/-- An entry that is no candidate takes no part. -/
theorem State.WinsAmong.append_of_not_candidate (h : s.WinsAmong o xs best) (he : ¬s.Candidate o e) :
    s.WinsAmong o (xs ++ [e]) best := by
  cases best with
  | none => exact List.forall_mem_append.mpr ⟨h, List.forall_mem_singleton.mpr he⟩
  | some b =>
    obtain ⟨hmem, hb, hbest⟩ := h
    exact ⟨List.mem_append_left _ hmem, hb,
      List.forall_mem_append.mpr ⟨hbest, List.forall_mem_singleton.mpr fun hc => absurd hc he⟩⟩

/-- An entry after all the others wins only by a higher priority. -/
theorem State.WinsAmong.append_betterEntry (h : s.WinsAmong o xs best) (hlast : ∀ j ∈ xs, j < e) :
    s.WinsAmong o (xs ++ [e]) (betterEntry s o best e) := by
  by_cases he : s.Candidate o e
  · have hmem : e ∈ xs ++ [e] := List.mem_append_right _ (List.mem_singleton_self e)
    have hself : ∀ j ∈ [e], s.Candidate o j → s.Outranks e j :=
      List.forall_mem_singleton.mpr fun _ => .refl s e
    cases best with
    | none =>
      rw [betterEntry_none he]
      exact ⟨hmem, he, List.forall_mem_append.mpr ⟨fun j hj hc => absurd hc (h j hj), hself⟩⟩
    | some b =>
      obtain ⟨hb, hcand, hbest⟩ := h
      rw [betterEntry_some he]
      split
      · next hlt =>
        exact ⟨hmem, he, List.forall_mem_append.mpr ⟨fun j hj hc => (hbest j hj hc).trans_lt hlt, hself⟩⟩
      · next hnot =>
        exact ⟨List.mem_append_left _ hb, hcand, List.forall_mem_append.mpr
          ⟨hbest, List.forall_mem_singleton.mpr fun _ => State.outranks_of_not_lt (hlast b hb).le hnot⟩⟩
  · rw [betterEntry_of_not_candidate he]
    exact h.append_of_not_candidate he

/-- The entries are met in the order of their numbers. -/
theorem State.winsAmong_foldl (s : State) (o : Fin 20) (hsorted : xs.Pairwise (· < ·)) :
    s.WinsAmong o xs (xs.foldl (betterEntry s o) none) := by
  induction xs using List.reverseRecOn with
  | nil => exact fun _ he => absurd he List.not_mem_nil
  | append_singleton xs e ih =>
    obtain ⟨hxs, _, hlast⟩ := List.pairwise_append.mp hsorted
    rw [List.foldl_append]
    exact (ih hxs).append_betterEntry fun j hj => hlast j hj e (List.mem_singleton_self e)

theorem State.winner_winsAmong (s : State) (o : Fin 20) : s.WinsAmong o (List.finRange 24) (s.winner o) :=
  s.winsAmong_foldl o (List.pairwise_lt_finRange 24)

theorem State.winner_of_some (h : s.winner o = some e) :
    s.Candidate o e ∧ ∀ j, s.Candidate o j → s.Outranks e j := by
  have hwins := s.winner_winsAmong o
  rw [h] at hwins
  obtain ⟨_, hcand, hbest⟩ := hwins
  exact ⟨hcand, fun j => hbest j (List.mem_finRange j)⟩

theorem State.winner_eq_none_iff : s.winner o = none ↔ ∀ e, ¬s.Candidate o e := by
  refine ⟨fun h e => ?_, fun h => ?_⟩
  · have hwins := s.winner_winsAmong o
    rw [h] at hwins
    exact hwins e (List.mem_finRange e)
  · refine Option.eq_none_iff_forall_ne_some.mpr fun e he => ?_
    obtain ⟨hcand, _⟩ := State.winner_of_some he
    exact h e hcand

/-! ## The driven value (R85, R91, R92, Table 34) -/

theorem State.pinValue_of_none (h : s.winner o = none) : s.pinValue o = s.idles[o] := by
  rw [State.pinValue, h]

/-- The inversion is applied last: the pin is low where the source signal is the entry's invert field. -/
theorem State.pinValue_of_some (h : s.winner o = some e) :
    s.pinValue o = if s.sourceSignal s.routes[e].source = s.routes[e].invert then .low else .high := by
  rw [State.pinValue, h]
  dsimp only
  split
  · next heq => rw [heq, bne_self_eq_false]; rfl
  · next hne => rw [bne_iff_ne.mpr hne]; rfl

end arbiter

section source

variable {s : State} {c : Fin 16}

theorem State.sourceSignal_paired (h : s.pairs[pairOf c].enabled = true) :
    s.sourceSignal c = if c.val % 2 = 0 then s.pairs[pairOf c].a else s.pairs[pairOf c].b := by
  simp only [State.sourceSignal, h, isEven, beq_iff_eq, if_true]

theorem State.sourceSignal_unpaired (h : s.pairs[pairOf c].enabled = false) : s.sourceSignal c = s.ownSignal c := by
  rw [State.sourceSignal, h]
  exact if_neg Bool.false_ne_true

theorem State.ownSignal_forced (h : s.chans[c].forced = true) : s.ownSignal c = s.chans[c].safe := if_pos h

theorem State.ownSignal_unforced (h : s.chans[c].forced = false) : s.ownSignal c = s.basicSignal c :=
  if_neg (Bool.eq_false_iff.mp h)

theorem State.basicSignal_halted (h : s.tbs[s.chans[c].tb].state = .halted) : s.basicSignal c = false := by
  rw [State.basicSignal, Channel.signalOn, h]

theorem State.basicSignal_running (h : s.tbs[s.chans[c].tb].state = .running) : s.basicSignal c = true ↔
    s.tbs[s.chans[c].tb].counter < s.chans[c].width s.tbs[s.chans[c].tb].slot := by
  rw [State.basicSignal, Channel.signalOn, h]
  exact decide_eq_true_iff

end source

/-- Settles O48: the best entry so far is kept over the entries met in the order of their numbers, and each row of
Table 34 is an equation of the source signal. -/
theorem pinWinnerAndValue : Obligations.PinWinnerAndValue := by
  refine ⟨fun s o => ⟨fun e => State.winner_of_some, State.winner_eq_none_iff⟩, fun s o =>
    ⟨State.pinValue_of_none, fun e => State.pinValue_of_some, fun c => ⟨State.sourceSignal_paired,
      fun hpair hforced => ?_, fun hpair hfree hhalt => ?_, fun hpair hfree hrun => ?_⟩⟩⟩ <;>
    rw [State.sourceSignal_unpaired hpair]
  · exact State.ownSignal_forced hforced
  · rw [State.ownSignal_unforced hfree, State.basicSignal_halted hhalt]
  · rw [State.ownSignal_unforced hfree, State.basicSignal_running hrun]

/-! # O24: ROUTE_SET, PIN_CONFIG and OUT_QUERY -/

theorem perform_routeSet (seq : Byte) (p : List Byte) (s : State) :
    perform (requestFrame seq RequestKind.routeSet.code p) s = takeRouteSet p s := rfl

theorem perform_pinConfig (seq : Byte) (p : List Byte) (s : State) :
    perform (requestFrame seq RequestKind.pinConfig.code p) s = takePinConfig p s := rfl

theorem perform_outQuery (seq : Byte) (p : List Byte) (s : State) :
    perform (requestFrame seq RequestKind.outQuery.code p) s = takeOutQuery p s := rfl

/-! ## ROUTE_SET (R93) -/

theorem routeSet_fields {e en src pin prio inv : Nat} (he : e < 256) (hen : en < 256) (hsrc : src < 256)
    (hpin : pin < 256) (hprio : prio < 256) (hinv : inv < 256) :
    let p := le8 e ++ le8 en ++ le8 src ++ le8 pin ++ le8 prio ++ le8 inv
    p.length = 6 ∧ u8 p 0 = e ∧ u8 p 1 = en ∧ u8 p 2 = src ∧ u8 p 3 = pin ∧ u8 p 4 = prio ∧ u8 p 5 = inv :=
  ⟨rfl, toNat_ofNat_byte he, toNat_ofNat_byte hen, toNat_ofNat_byte hsrc, toNat_ofNat_byte hpin,
    toNat_ofNat_byte hprio, toNat_ofNat_byte hinv⟩

theorem takeRouteSet_badLength {p : List Byte} (hlen : p.length ≠ 6) (s : State) :
    takeRouteSet p s = refuse .badLength s := if_pos hlen

theorem route?_none {p : List Byte}
    (h : 1 < u8 p 1 ∨ 15 < u8 p 2 ∨ 19 < u8 p 3 ∨ 3 < u8 p 4 ∨ 1 < u8 p 5) : route? p = none := by
  unfold route?
  split
  · next en src pin prio inv hen hsrc hpin hprio hinv =>
    rcases h with h | h | h | h | h
    · exact absurd (hen.symm.trans (mark?_none h)) (by simp)
    · exact absurd (hsrc.symm.trans (element?_none h)) (by simp)
    · exact absurd (hpin.symm.trans (element?_none h)) (by simp)
    · exact absurd (hprio.symm.trans (element?_none h)) (by simp)
    · exact absurd (hinv.symm.trans (mark?_none h)) (by simp)
  · rfl

theorem route?_inArg {p : List Byte} {c : Fin 16} {o : Fin 20} {r : Fin 4} (hen : u8 p 1 ≤ 1)
    (hsrc : u8 p 2 = c.val) (hpin : u8 p 3 = o.val) (hprio : u8 p 4 = r.val) (hinv : u8 p 5 ≤ 1) :
    route? p = some { enabled := decide (u8 p 1 = 1), source := c, pin := o, priority := r,
                      invert := decide (u8 p 5 = 1) } := by
  rw [route?, mark?_of_le hen, hsrc, element?_val, hpin, element?_val, hprio, element?_val, mark?_of_le hinv]

theorem takeRouteSet_badArg {p : List Byte} (hlen : p.length = 6) (h : 23 < u8 p 0 ∨ 1 < u8 p 1 ∨ 15 < u8 p 2 ∨
    19 < u8 p 3 ∨ 3 < u8 p 4 ∨ 1 < u8 p 5) (s : State) : takeRouteSet p s = refuse .badArg s := by
  rw [takeRouteSet, if_neg (not_not.mpr hlen)]
  split
  · next e r he hr =>
    rcases h with h | h
    · exact absurd (he.symm.trans (element?_none h)) (by simp)
    · exact absurd (hr.symm.trans (route?_none h)) (by simp)
  · rfl

theorem takeRouteSet_inArg {p : List Byte} {i : Fin 24} {r : Route} (hlen : p.length = 6) (hi : u8 p 0 = i.val)
    (hr : route? p = some r) (s : State) :
    takeRouteSet p s = accept .ok r.payload { s with routes := s.routes.set i r } := by
  rw [takeRouteSet, if_neg (not_not.mpr hlen), hi, element?_val, hr]

/-- A mark of 0 or 1 comes back as the byte it was. -/
theorem flagByte_decide {v : Nat} (h : v ≤ 1) : flagByte (decide (v = 1)) = le8 v := by
  match v, h with
  | 0, _ => rfl
  | 1, _ => rfl

/-! ## PIN_CONFIG (R94) -/

theorem pinConfig_fields {pin d : Nat} (hpin : pin < 256) (hd : d < 256) :
    let p := le8 pin ++ le8 d
    p.length = 2 ∧ u8 p 0 = pin ∧ u8 p 1 = d :=
  ⟨rfl, toNat_ofNat_byte hpin, toNat_ofNat_byte hd⟩

theorem takePinConfig_badLength {p : List Byte} (hlen : p.length ≠ 2) (s : State) :
    takePinConfig p s = refuse .badLength s := if_pos hlen

theorem drive?_none {v : Nat} (h : 2 < v) : drive? v = none := by
  match v, h with
  | _ + 3, _ => rfl

theorem drive?_code (d : Drive) : drive? d.code = some d := by cases d <;> rfl

theorem takePinConfig_badArg {p : List Byte} (hlen : p.length = 2) (h : 19 < u8 p 0 ∨ 2 < u8 p 1) (s : State) :
    takePinConfig p s = refuse .badArg s := by
  rw [takePinConfig, if_neg (not_not.mpr hlen)]
  split
  · next pin d hpin hd =>
    rcases h with h | h
    · exact absurd (hpin.symm.trans (element?_none h)) (by simp)
    · exact absurd (hd.symm.trans (drive?_none h)) (by simp)
  · rfl

theorem takePinConfig_inArg {p : List Byte} {o : Fin 20} {v : Drive} (hlen : p.length = 2) (ho : u8 p 0 = o.val)
    (hv : u8 p 1 = v.code) (s : State) :
    takePinConfig p s = accept .ok (le8 v.code) { s with idles := s.idles.set o v } := by
  rw [takePinConfig, if_neg (not_not.mpr hlen), ho, element?_val, hv, drive?_code]

/-! ## OUT_QUERY (R95) -/

theorem takeOutQuery_nil (s : State) : takeOutQuery [] s = accept .ok s.pinsPayload s := if_neg (not_not.mpr rfl)

/-- The pins are a matter of the router, the channels, their timebases and pairs, none of which a frame changes. -/
theorem State.heard_pinsPayload (s : State) : s.heard.pinsPayload = s.pinsPayload := rfl

/-- Settles O24: the fields are read back from the payload and tested as R93 and R94 say; OUT_QUERY gives two bytes for
each pin. -/
theorem routerRequestsEffect : Obligations.RouterRequestsEffect := by
  refine ⟨fun s seq p hlen hready => refused_of_perform (k := .routeSet) hready (takeRouteSet_badLength hlen _),
    fun s seq p hlen hready => refused_of_perform (k := .pinConfig) hready (takePinConfig_badLength hlen _),
    ⟨?_, ?_⟩, ?_⟩
  · intro s seq e en src pin prio inv he hen hsrc hpin hprio hinv p hready
    obtain ⟨hlen, h0, h1, h2, h3, h4, h5⟩ := routeSet_fields he hen hsrc hpin hprio hinv
    refine ⟨fun hbad => refused_of_perform (k := .routeSet) hready ?_, ?_⟩
    · rw [perform_routeSet]
      exact takeRouteSet_badArg hlen (by rwa [h0, h1, h2, h3, h4, h5]) s.heard
    · intro i c o r hi hc ho hr hle hle'
      have hroute := route?_inArg (h1.trans_le hle) (h2.trans hc) (h3.trans ho) (h4.trans hr) (h5.trans_le hle')
      have htake := takeRouteSet_inArg hlen (h0.trans hi) hroute s.heard
      rw [Route.payload, h1, h5, flagByte_decide hle, flagByte_decide hle', ← hc, ← ho, ← hr] at htake
      exact accepted_of_perform (k := .routeSet) hready htake
  · intro s seq pin d hpin hd p hready
    obtain ⟨hlen, h0, h1⟩ := pinConfig_fields hpin hd
    refine ⟨fun hbad => refused_of_perform (k := .pinConfig) hready ?_, fun o v ho hv => ?_⟩
    · rw [perform_pinConfig]
      exact takePinConfig_badArg hlen (by rwa [h0, h1]) s.heard
    · have htake := takePinConfig_inArg hlen (h0.trans ho) (h1.trans hv) s.heard
      rw [← hv] at htake
      exact accepted_of_perform (k := .pinConfig) hready htake
  · intro s seq hready
    refine accepted_of_perform (k := .outQuery) hready ?_
    rw [perform_outQuery, takeOutQuery_nil, State.heard_pinsPayload, State.pinsPayload]
    refine congrArg (accept .ok · s.heard) (List.flatMap_congr fun o _ => ?_)
    cases s.winner o <;> cases s.pinValue o <;> rfl

end Sys2Proof.Machine

namespace Sys2Proof.Machine

/-! # The activation of a source

What becoming active makes of the fault sources, and what the action on the channels leaves as it is. -/

/-- A change of channels, points and pairs alone: what a source does when it acts (R104, R105). -/
def State.ActedOn (s t : State) : Prop := ∃ v w q, t = { s with chans := v, points := w, pairs := q }

theorem State.ActedOn.refl (s : State) : s.ActedOn s := ⟨s.chans, s.points, s.pairs, rfl⟩

theorem State.ActedOn.trans {s t u : State} (h : s.ActedOn t) (g : t.ActedOn u) : s.ActedOn u := by
  obtain ⟨_, _, _, rfl⟩ := h
  obtain ⟨_, _, _, rfl⟩ := g
  exact ⟨_, _, _, rfl⟩

theorem forEach_actedOn {α : Type} (xs : List α) {f : α → State → State} (h : ∀ x (u : State), u.ActedOn (f x u))
    (s : State) : s.ActedOn (forEach xs f s) :=
  forEach_induction s.ActedOn xs f (fun x _ u hu => hu.trans (h x u)) s (.refl s)

theorem forceChannel_actedOn (c : Fin 16) (s : State) : s.ActedOn (s.forceChannel c) := by
  unfold State.forceChannel State.forcePair
  split <;> exact ⟨_, _, _, rfl⟩

theorem stopChannel_actedOn (c : Fin 16) (s : State) : s.ActedOn (s.stopChannel c) := by
  unfold State.stopChannel
  split
  · exact .refl s
  · obtain ⟨v, hv⟩ := s.withdraw_frame c
    rw [hv]
    exact ⟨_, _, _, rfl⟩

theorem coverChannel_actedOn (f : Fin 4) (c : Fin 16) (s : State) : s.ActedOn (s.coverChannel f c) := by
  unfold State.coverChannel
  split
  · exact .refl s
  · exact forceChannel_actedOn c s
  · exact (forceChannel_actedOn c s).trans (stopChannel_actedOn c _)

theorem coverRetested_actedOn (k : Fin 8) (s : State) : s.ActedOn (s.coverRetested k) :=
  forEach_actedOn _ (fun f => coverChannel_actedOn f (oddOf k)) s

/-- A latching is a report, a latched flag, and an action (R102). -/
theorem latchFault_actedOn (f : Fin 4) (s : State) : (s.raiseFault f).ActedOn (s.latchFault f) :=
  forEach_actedOn _ (coverChannel_actedOn f) _

/-- A source active, latched and reported, before it acts. -/
def State.raised (f : Fin 4) (s : State) : State := (s.modFault f fun src => { src with active := true }).raiseFault f

theorem State.raised_get (f j : Fin 4) (s : State) : (s.raised f).faults[j] =
    if j = f then { s.faults[f] with active := true, latched := true } else s.faults[j] := by
  have hactive (i : Fin 4) := State.modFault_get f i (fun src => { src with active := true }) s
  refine (State.modFault_get f j (fun src => { src with latched := true }) _).trans ?_
  rw [State.offer_faults, hactive, hactive, if_pos rfl]
  split <;> rfl

theorem State.activateFault_of_latched {f : Fin 4} {s : State} (h : s.faults[f].latched = true) :
    s.activateFault f = s.modFault f fun src => { src with active := true } := if_pos h

theorem State.activateFault_of_unlatched {f : Fin 4} {s : State} (h : s.faults[f].latched = false) :
    s.activateFault f = (s.modFault f fun src => { src with active := true }).latchFault f :=
  if_neg (Bool.eq_false_iff.mp h)

/-- A source that becomes active is latched then, if it was not before; no other source changes (R102). -/
theorem State.activateFault_get (f j : Fin 4) (s : State) : (s.activateFault f).faults[j] =
    if j = f then { s.faults[f] with active := true, latched := true } else s.faults[j] := by
  cases hl : s.faults[f].latched with
  | true => rw [State.activateFault_of_latched hl, State.modFault_get, ← hl]
  | false =>
    rw [State.activateFault_of_unlatched hl, (latchFault_sources f _).faults]
    exact s.raised_get f j

theorem State.activateFault_units (f : Fin 4) (s : State) : (s.activateFault f).units = s.units := by
  cases hl : s.faults[f].latched with
  | true => rw [State.activateFault_of_latched hl, State.modFault_units]
  | false =>
    obtain ⟨_, _, _, hacted⟩ := latchFault_actedOn f (s.modFault f fun src => { src with active := true })
    rw [State.activateFault_of_unlatched hl, hacted]
    rfl

end Sys2Proof.Machine

namespace Sys2Proof.Machine

/-! # O55: the fault sources, and what asserts SPEED

A source that is active without being latched could come only of an unlatching, which is refused, or of an activation,
which latches. SPEED follows the units at the two events that change whether one asserts it. Everything else leaves the
sources and the assertions alone (`SameMonitor`). -/

/-! ## One source (R98, R99) -/

/-- An active source is latched; an FLT source has its input in range, and no other source has one. -/
structure FaultSource.Sound (src : FaultSource) (f : Fin 4) : Prop where
  latched : src.active = true → src.latched = true
  input : src.input.isSome = decide (f.val < 2)
  range : ∀ i ∈ src.input, 1 ≤ i.filter ∧ i.filter ≤ 16 ∧ i.run ≤ i.filter

namespace FaultSource.Sound

variable {src : FaultSource} {f : Fin 4}

theorem activate (h : src.Sound f) : ({ src with active := true, latched := true } : FaultSource).Sound f :=
  ⟨fun _ => rfl, h.input, h.range⟩

theorem deactivate (h : src.Sound f) : ({ src with active := false } : FaultSource).Sound f :=
  ⟨nofun, h.input, h.range⟩

theorem unlatch (h : src.Sound f) (hi : src.active = false) : ({ src with latched := false } : FaultSource).Sound f :=
  ⟨fun ha => absurd (hi.symm.trans ha) Bool.false_ne_true, h.input, h.range⟩

/-- The run stops at the filter value (R99). -/
theorem sample (h : src.Sound f) (high : Bool) : (src.sample high).Sound f := by
  unfold FaultSource.sample
  cases hinput : src.input with
  | none => exact h
  | some i =>
    obtain ⟨hlow, hhigh, -⟩ := h.range i hinput
    have hsome : true = decide (f.val < 2) := by rw [← h.input, hinput]; rfl
    have hrange {run : Nat} (hr : run ≤ i.filter) :
        ∀ j ∈ some { i with run := run }, 1 ≤ j.filter ∧ j.filter ≤ 16 ∧ j.run ≤ j.filter := by
      rintro j ⟨⟩
      exact ⟨hlow, hhigh, hr⟩
    dsimp only
    split
    · exact ⟨h.latched, hsome, hrange (Nat.min_le_left _ _)⟩
    · exact ⟨nofun, hsome, hrange (Nat.zero_le _)⟩

end FaultSource.Sound

/-- The input fields that a FAULT_CONFIG can carry for a source are in range (R108). -/
theorem fltInput?_some {f : Fin 4} {polarity filter : Nat} {input : Option FltInput}
    (h : fltInput? f polarity filter = some input) :
    input.isSome = decide (f.val < 2) ∧ ∀ i ∈ input, 1 ≤ i.filter ∧ i.filter ≤ 16 ∧ i.run ≤ i.filter := by
  unfold fltInput? at h
  split at h
  · next hflt =>
    split at h
    · next pol n _ hn =>
      cases h
      refine ⟨(decide_eq_true hflt).symm, ?_⟩
      rintro i ⟨⟩
      obtain ⟨hlow, hhigh⟩ := within?_some hn
      exact ⟨hlow, hhigh, Nat.zero_le _⟩
    · cases h
  · next hother =>
    split at h
    · cases h
      exact ⟨(decide_eq_false hother).symm, nofun⟩
    · cases h

/-! ## The assertions (R101) -/

theorem State.anyAsserting_iff (s : State) : s.anyAsserting = true ↔ ∃ u : Fin 4, s.units[u].asserting = true := by
  simp [State.anyAsserting]

theorem State.anyAsserting_congr {s t : State} (h : ∀ u : Fin 4, t.units[u].asserting = s.units[u].asserting) :
    t.anyAsserting = s.anyAsserting := by
  simp only [State.anyAsserting, h]

theorem SpeedUnit.sample_asserting (u : SpeedUnit) (high : Bool) : (u.sample high).asserting = u.asserting := by
  unfold SpeedUnit.sample
  split
  · rfl
  · split
    · rfl
    · split <;> rfl

/-- A unit that is configured does not measure (R118). -/
theorem SpeedUnit.configure_asserting (u : SpeedUnit) (cfg : UnitConfig) : (u.configure cfg).asserting = false := by
  unfold SpeedUnit.asserting SpeedUnit.configure
  cases cfg.enable <;> simp

/-! ## Operations that change nothing of it -/

/-- The sources are the same, and the same units assert SPEED. -/
structure SameMonitor (s t : State) : Prop where
  faults : t.faults = s.faults
  asserting : ∀ u : Fin 4, t.units[u].asserting = s.units[u].asserting

namespace SameMonitor

variable {s t u : State}

theorem of_eq (hf : t.faults = s.faults) (hu : t.units = s.units) : SameMonitor s t := ⟨hf, fun _ => by rw [hu]⟩

theorem refl (s : State) : SameMonitor s s := of_eq rfl rfl

theorem trans (h : SameMonitor s t) (g : SameMonitor t u) : SameMonitor s u :=
  ⟨g.faults.trans h.faults, fun i => (g.asserting i).trans (h.asserting i)⟩

theorem of_reaches {B : Fin 4 → Prop} {P : Fin 16 → Prop} {K : Fin 8 → Prop} (h : Reaches B P K s t) :
    SameMonitor s t := of_eq h.faults h.units

theorem of_actedOn (h : s.ActedOn t) : SameMonitor s t := by
  obtain ⟨_, _, _, rfl⟩ := h
  exact of_eq rfl rfl

theorem offer (r : Report) (s : State) : SameMonitor s (s.offer r) := of_eq rfl rfl

theorem modPoint (p : Fin 8) (f : Point → Point) (s : State) : SameMonitor s (s.modPoint p f) := of_eq rfl rfl

theorem mapChans (f : Fin 16 → Channel → Channel) (s : State) : SameMonitor s (s.mapChans f) :=
  of_eq (State.mapChans_faults f s) (State.mapChans_units f s)

theorem mapUnits {f : Fin 4 → SpeedUnit → SpeedUnit} (h : ∀ i unit, (f i unit).asserting = unit.asserting)
    (s : State) : SameMonitor s (s.mapUnits f) :=
  ⟨State.mapUnits_faults f s, fun i => by rw [State.mapUnits_get, h]⟩

end SameMonitor

theorem tickTimebase_sameMonitor (b : Fin 4) (s : State) : SameMonitor s (s.tickTimebase b) := by
  unfold State.tickTimebase
  split
  · exact .of_reaches (s.boundary_reaches false b)
  · exact .of_eq (State.mapPairs_faults _ _) (State.mapPairs_units _ _)

theorem startTbs_sameMonitor (set : List (Fin 4)) (s : State) : SameMonitor s (s.startTbs set) :=
  forEachInAnyOrder_induction (SameMonitor s) _ _ (fun _ _ hu => hu.trans (.of_eq rfl rfl))
    (fun b _ u hu => hu.trans (.of_reaches (u.boundary_reaches true b))) _
    (.of_eq (State.mapTbs_faults _ s) (State.mapTbs_units _ s))

theorem expireGathering_sameMonitor (p : Fin 8) (s : State) : SameMonitor s (s.expireGathering p) := by
  have hreleased : SameMonitor s (s.releaseChannels s.points[p].arrived) := .mapChans _ s
  rw [State.expireGathering_eq]
  exact (hreleased.trans (.modPoint p _ _)).trans (.offer _ _)

theorem supersedeReplacement_sameMonitor (c : Fin 16) (s : State) : SameMonitor s (s.supersedeReplacement c) := by
  unfold State.supersedeReplacement State.freeReplacement
  split
  · exact .refl s
  · exact .of_eq (State.offerIf_faults _ _ _) (State.offerIf_units _ _ _)

theorem chFlush_sameMonitor (set : ChSet) (s : State) :
    SameMonitor s (forEachInAnyOrder set.toList State.flushChannel s) := by
  obtain ⟨_, -, hflushed⟩ := forEachInAnyOrder_flushedBy set s
  obtain ⟨_, _, _, _, _, hrest⟩ := hflushed.rest
  rw [hrest]
  exact .of_eq rfl rfl

theorem chConfig_sameMonitor (c : Fin 16) (b : Fin 4) (mode : Mode) (safe : Bool) (s : State) :
    SameMonitor s ((s.configChannel c b mode safe).rebindPair c s) := by
  obtain ⟨_, _, hframe⟩ := State.configAndRebind_frame c b mode safe s
  rw [hframe]
  exact .of_eq rfl rfl

theorem configPair_sameMonitor (k : Fin 8) (enable : Bool) (d : Nat) (s : State) :
    SameMonitor s (s.configPair k enable d) := by
  unfold State.configPair
  split
  · obtain ⟨_, hframe⟩ := (s.lockPair k d).restartPair_frame k
    refine SameMonitor.trans ?_ (.of_actedOn (coverRetested_actedOn k _))
    rw [State.enablePair_eq, hframe]
    exact .of_eq rfl rfl
  · exact .of_eq rfl rfl
  · exact SameMonitor.trans (.of_eq rfl rfl) (.of_actedOn (coverRetested_actedOn k _))
  · exact .of_eq rfl rfl

/-! ## The sources of a state -/

/-- Every source is sound, and SPEED is active exactly while a unit asserts it. -/
structure State.MonitorSound (s : State) : Prop where
  sources : ∀ f : Fin 4, s.faults[f].Sound f
  speed : s.faults[speed].active = s.anyAsserting

theorem State.monitorSound_iff (s : State) : s.MonitorSound ↔ s.FaultInv := by
  constructor
  · rintro ⟨sources, hspeed⟩
    exact ⟨fun f => (sources f).latched, fun f => (sources f).input, fun f => (sources f).range, hspeed⟩
  · rintro ⟨hlatched, hinput, hrange, hspeed⟩
    exact ⟨fun f => ⟨hlatched f, hinput f, hrange f⟩, hspeed⟩

theorem State.sources_modFault {s : State} (h : ∀ i : Fin 4, s.faults[i].Sound i) {f : Fin 4}
    {g : FaultSource → FaultSource} (hg : (g s.faults[f]).Sound f) (i : Fin 4) :
    (s.modFault f g).faults[i].Sound i := by
  rw [State.modFault_get]
  split
  · next hi => subst hi; exact hg
  · exact h i

theorem State.sources_activateFault {s : State} (h : ∀ i : Fin 4, s.faults[i].Sound i) (f i : Fin 4) :
    (s.activateFault f).faults[i].Sound i := by
  rw [State.activateFault_get]
  split
  · next hi => subst hi; exact (h i).activate
  · exact h i

/-- SPEED becomes inactive where no unit asserts it (R101). -/
theorem State.monitorSound_settleSpeed {s : State} (h : ∀ i : Fin 4, s.faults[i].Sound i)
    (hs : s.anyAsserting = true → s.faults[Machine.speed].active = true) : s.settleSpeed.MonitorSound := by
  cases ha : s.anyAsserting with
  | true =>
    rw [State.settleSpeed, if_pos ha]
    exact ⟨h, (hs ha).trans ha.symm⟩
  | false =>
    rw [State.settleSpeed, if_neg (Bool.eq_false_iff.mp ha)]
    refine ⟨State.sources_modFault h (h Machine.speed).deactivate, ?_⟩
    exact (congrArg FaultSource.active (State.modFault_get _ _ _ _)).trans ha.symm

/-- SPEED is active after a window's effects where it was before or is among them. -/
theorem forEach_windowEffect_speed (es : List WindowEffect) (s : State) :
    (forEach es State.windowEffect s).faults[speed].active = (s.faults[speed].active || decide (.raiseSpeed ∈ es)) := by
  induction es generalizing s with
  | nil => exact (Bool.or_false _).symm
  | cons e es ih =>
    rw [forEach_cons, ih]
    cases e with
    | report r => simp [State.windowEffect]
    | raiseSpeed => simp [State.windowEffect, State.activateFault_get, -Fin.getElem_fin]

/-- A window's effects keep the sources sound and touch no unit. -/
theorem forEach_windowEffect_sources (es : List WindowEffect) {s : State} (h : ∀ i : Fin 4, s.faults[i].Sound i) :
    (∀ i : Fin 4, (forEach es State.windowEffect s).faults[i].Sound i) ∧
      (forEach es State.windowEffect s).units = s.units := by
  refine forEach_induction (fun v => (∀ i : Fin 4, v.faults[i].Sound i) ∧ v.units = s.units) es _
    (fun e _ v hv => ?_) s ⟨h, rfl⟩
  cases e with
  | report r => exact hv
  | raiseSpeed => exact ⟨State.sources_activateFault hv.1 _, (State.activateFault_units _ v).trans hv.2⟩

namespace State.MonitorSound

variable {s t : State}

theorem same (h : s.MonitorSound) (g : SameMonitor s t) : t.MonitorSound where
  sources f := by rw [g.faults]; exact h.sources f
  speed := by rw [g.faults, State.anyAsserting_congr g.asserting, h.speed]

/-- A source changes and SPEED stays active or not. -/
theorem modFault (h : s.MonitorSound) {f : Fin 4} {g : FaultSource → FaultSource} (hg : (g s.faults[f]).Sound f)
    (hs : f = Machine.speed → (g s.faults[f]).active = s.faults[f].active) : (s.modFault f g).MonitorSound where
  sources := State.sources_modFault h.sources hg
  speed := by
    refine Eq.trans ?_ h.speed
    rw [State.modFault_get]
    split
    · next hf => subst hf; exact hs rfl
    · rfl

theorem activateFault (h : s.MonitorSound) {f : Fin 4} (hf : Machine.speed ≠ f) : (s.activateFault f).MonitorSound where
  sources := State.sources_activateFault h.sources f
  speed := by
    rw [State.activateFault_get, if_neg hf, h.speed]
    exact (State.anyAsserting_congr fun u => by rw [State.activateFault_units]).symm

/-- A sample moves FLT0 and FLT1 alone, and no unit's streak (R99, R113). -/
theorem sample (h : s.MonitorSound) (lines : InputLines) :
    ((s.mapUnits fun u unit => unit.sample lines.tach[u]).sampleFaults lines.flt).MonitorSound := by
  have hunits := h.same (.mapUnits (fun u unit => unit.sample_asserting lines.tach[u]) s)
  have hflt {u : State} (hu : u.MonitorSound) {f : Fin 4} (hf : f ≠ Machine.speed) (high : Bool) :
      (u.modFault f fun src => src.sample high).MonitorSound :=
    hu.modFault ((hu.sources f).sample high) fun he => absurd he hf
  refine forEachInAnyOrder_induction State.MonitorSound _ _ (fun _ _ hu => hu.same (.of_eq rfl rfl))
    (fun f hf u hu => hu.activateFault ?_) _ (hflt (hflt hunits (by decide) _) (by decide) _)
  rintro rfl
  rcases List.mem_append.mp hf with hmem | hmem <;> split at hmem
  all_goals exact absurd hmem (by decide)

/-- SPEED becomes active where the first unit begins to assert it, and inactive where the last one stops (R101). -/
theorem expireWindow (h : s.MonitorSound) (u : Fin 4) : (s.expireWindow u).MonitorSound := by
  unfold State.expireWindow
  dsimp only
  generalize hjudged : (s.modUnit u fun _ => s.units[u].closeWindow.judge) = judged
  have hfaults : judged.faults = s.faults := by rw [← hjudged, State.modUnit_faults]
  obtain ⟨order, n, hperm, heq⟩ := forEachInAnyOrder_eq
    ((s.units[u].closeWindow.windowReport u).toList.map WindowEffect.report ++
      if !s.anyAsserting && judged.anyAsserting then [WindowEffect.raiseSpeed] else []) State.windowEffect judged
  rw [heq]
  have hafter : ({ judged with choice := n } : State).faults = s.faults := hfaults
  obtain ⟨hsound, hunits⟩ := forEach_windowEffect_sources order (s := { judged with choice := n })
    fun i => by rw [hafter]; exact h.sources i
  refine State.monitorSound_settleSpeed hsound fun hasserts => ?_
  have hbegun : judged.anyAsserting = true := by
    rw [← hasserts]
    exact (State.anyAsserting_congr fun i => by rw [hunits]).symm
  rw [forEach_windowEffect_speed, hafter, h.speed]
  cases hbefore : s.anyAsserting with
  | true => rfl
  | false =>
    rw [Bool.false_or, decide_eq_true_iff, hperm.mem_iff, hbefore, hbegun]
    exact List.mem_append_right _ (List.mem_singleton.mpr rfl)

/-- A configured unit no longer asserts SPEED, and no other unit changes (R118). -/
theorem smConfig (h : s.MonitorSound) (u : Fin 4) (cfg : UnitConfig) :
    (s.modUnit u fun unit => unit.configure cfg).settleSpeed.MonitorSound := by
  refine State.monitorSound_settleSpeed h.sources fun ha => h.speed.trans ?_
  obtain ⟨i, hi⟩ := (State.anyAsserting_iff _).mp ha
  rw [State.modUnit_get] at hi
  split at hi
  · exact absurd ((SpeedUnit.configure_asserting _ cfg).symm.trans hi) Bool.false_ne_true
  · exact s.anyAsserting_iff.mpr ⟨i, hi⟩

theorem request (h : s.MonitorSound) (e : RequestEffect s t) : t.MonitorSound := by
  cases e with
  | sameBlocks hst => exact h.same (.of_eq hst.faults hst.units)
  | timebase b f _ hst =>
    refine h.same (.of_eq (hst.faults.trans ?_) (hst.units.trans ?_))
    · exact State.offerIf_faults _ _ _
    · exact State.offerIf_units _ _ _
  | tbStart set _ => exact h.same (startTbs_sameMonitor set s)
  | tbStop set => exact h.same (.of_eq rfl rfl)
  | chQuota q => exact h.same (.mapChans _ s)
  | segAppend c segs _ => exact h.same (.of_eq rfl rfl)
  | segReplace c segs notify _ => exact h.same ((supersedeReplacement_sameMonitor c s).trans (.of_eq rfl rfl))
  | chConfig c b mode safe _ _ => exact h.same (chConfig_sameMonitor c b mode safe s)
  | chLevel c p _ _ => exact h.same (.of_eq (State.offerIf_faults _ _ _) (State.offerIf_units _ _ _))
  | chStart set _ _ => exact h.same (.mapChans _ s)
  | chPause set _ => exact h.same (.mapChans _ s)
  | chResume set _ => exact h.same (.mapChans _ s)
  | chFlush set _ => exact h.same (chFlush_sameMonitor set s)
  | rpDefine p members timeout _ => exact h.same (.of_eq rfl rfl)
  | pairConfig k enable d _ _ => exact h.same (configPair_sameMonitor k enable d s)
  | faultConfig f action chans input polarity filter fits _ =>
    obtain ⟨hsome, hrange⟩ := fltInput?_some fits
    exact h.modFault ⟨(h.sources f).latched, hsome, hrange⟩ fun _ => rfl
  | faultClear f inactive _ =>
    have hunlatched : (s.unlatchFault f).MonitorSound :=
      (h.modFault ((h.sources f).unlatch inactive) fun _ => rfl).same (.offer _ _)
    rw [State.clearFault_eq]
    exact hunlatched.same (.mapChans _ _)
  | smConfig u cfg => exact h.smConfig u cfg

/-- A unit's timer does not move its streak. -/
theorem advanceTimers (h : s.MonitorSound) : s.advanceTimers.MonitorSound := by
  refine h.same ⟨rfl, fun u => ?_⟩
  have hget : s.advanceTimers.units[u] =
      { s.units[u] with timer := countMs (s.counts (.window u)) s.units[u].timer } := getFin_ofFn _ u
  rw [hget]
  rfl

/-- At reset no source is active and every unit is OFF (Tables 39 and 42). -/
theorem afterReset (cause : ResetCause) (s : State) : (s.afterReset cause).MonitorSound where
  sources f := by
    match f with
    | 0 | 1 => refine ⟨nofun, rfl, ?_⟩; rintro i ⟨⟩; decide
    | 2 | 3 => exact ⟨nofun, rfl, nofun⟩
  speed := by
    have hunit (u : Fin 4) : (s.afterReset cause).units[u] = .reset := Vector.getElem_replicate _
    refine Eq.symm (Bool.eq_false_iff.mpr fun ha => ?_)
    obtain ⟨u, hu⟩ := (State.anyAsserting_iff _).mp ha
    rw [hunit] at hu
    exact absurd hu (by decide)

end State.MonitorSound

/-! ## Every step -/

theorem monitorSound_blockInvariant : BlockInvariant State.MonitorSound where
  congr h g := h.same (.of_eq g.faults g.units)
  reset := State.MonitorSound.afterReset
  perform f s h := h.request (perform_effect f s)
  clock s h := h.same (.of_eq rfl rfl)
  tick b s _ h := h.same (tickTimebase_sameMonitor b s)
  riseA k s _ h := h.same (.of_eq rfl rfl)
  riseB k s _ h := h.same (.of_eq rfl rfl)
  sample lines _ h := h.sample lines
  advance _ h := h.advanceTimers
  gather p s _ h := h.same (expireGathering_sameMonitor p s)
  window u _ _ h := h.expireWindow u
  silenceOn _ h := h.activateFault (by decide)
  silenceOff s h := h.modFault (h.sources silence).deactivate nofun

/-- Settles O55: an activation latches, and SPEED follows the units at every event that changes an assertion. -/
theorem stepKeepsTheFaultSources : Obligations.StepKeepsTheFaultSources := fun s t h ht =>
  t.monitorSound_iff.mp (monitorSound_blockInvariant.step (s.monitorSound_iff.mpr h) ht)

end Sys2Proof.Machine

namespace Sys2Proof.Machine

/-! # O39: what a source that becomes active does -/

/-! ## The pairs of the channels acted on (R84, R104) -/

theorem Pair.low_low (p : Pair) : p.low.low = p.low := rfl

/-- Forcing a channel lowers the enabled pair whose even channel it is. -/
theorem State.forceChannel_pair (c : Fin 16) (s : State) (k : Fin 8) : (s.forceChannel c).pairs[k] =
    if c = evenOf k ∧ s.pairs[k].enabled = true then s.pairs[k].low else s.pairs[k] := by
  unfold State.forceChannel State.forcePair
  simp only [Bool.and_eq_true, isEven_iff, State.modChan_pairs]
  by_cases hc : c = evenOf k
  · subst hc
    simp only [pairOf_evenOf, true_and]
    split
    · rw [State.modPair_get, if_pos rfl, State.modChan_pairs]
    · rfl
  · refine Eq.trans ?_ (if_neg fun h => hc h.1).symm
    split
    · next heven =>
      refine (State.modPair_get _ _ _ _).trans (if_neg ?_)
      rintro rfl
      exact hc heven.1
    · rfl

theorem State.stopChannel_pairs (c : Fin 16) (s : State) : (s.stopChannel c).pairs = s.pairs := by
  obtain ⟨v, hv⟩ := s.withdraw_frame c
  unfold State.stopChannel
  rw [hv]
  split <;> rfl

theorem State.coverChannel_pair (f : Fin 4) (c : Fin 16) (s : State) (k : Fin 8) : (s.coverChannel f c).pairs[k] =
    if s.faults[f].action ≠ .none ∧ c = evenOf k ∧ s.pairs[k].enabled = true then s.pairs[k].low else s.pairs[k] := by
  unfold State.coverChannel
  split
  · next ha => rw [if_neg fun h => h.1 ha]
  · next ha => rw [State.forceChannel_pair, ha]; simp
  · next ha => rw [State.stopChannel_pairs, State.forceChannel_pair, ha]; simp

/-- One source acts on a list of channels. -/
theorem forEach_coverChannel_pair (f : Fin 4) (cs : List (Fin 16)) (s : State) (k : Fin 8) :
    (forEach cs (State.coverChannel f) s).pairs[k] =
      if s.faults[f].action ≠ .none ∧ evenOf k ∈ cs ∧ s.pairs[k].enabled = true then s.pairs[k].low
      else s.pairs[k] := by
  induction cs generalizing s with
  | nil => simp [forEach_nil]
  | cons c cs ih =>
    have hsources := coverChannel_sources f c s
    rw [forEach_cons, ih, hsources.faults, hsources.enabled, State.coverChannel_pair]
    simp only [List.mem_cons, eq_comm (a := evenOf k)]
    by_cases hc : c = evenOf k
    · simp only [hc, true_and, true_or]
      by_cases hon : s.faults[f].action ≠ .none ∧ s.pairs[k].enabled = true
      · simp only [if_pos hon, Pair.low_low, ite_self]
      · exact if_neg fun h => hon ⟨h.1, h.2.2⟩
    · simp only [hc, false_and, and_false, if_false, false_or]

/-! ## The points of the channels acted on (R71, R105) -/

/-- A source that acts on the channel stops it where it waits at the point. -/
def State.stopsAt (s : State) (f : Fin 4) (p : Fin 8) (c : Fin 16) : Bool :=
  s.faults[f].action == .stop && !s.chans[c].locked && s.chans[c].waitsAt p

theorem Channel.waiting_of_waitsAt {ch : Channel} {p : Fin 8} (h : ch.waitsAt p = true) : ch.state = .waiting :=
  ((Channel.waitsAt_iff ch p).mp h).1

theorem State.stopChannel_point (c : Fin 16) (s : State) (p : Fin 8) : (s.stopChannel c).points[p] =
    if s.chans[c].locked = false ∧ s.chans[c].waitsAt p = true then s.points[p].leave c else s.points[p] := by
  unfold State.stopChannel
  split
  · next h =>
    refine (if_neg ?_).symm
    rintro ⟨hlocked, hwaits⟩
    rw [hlocked, Channel.waiting_of_waitsAt hwaits] at h
    exact absurd h (by decide)
  · next h =>
    have hlocked : s.chans[c].locked = false := (Bool.or_eq_false_iff.mp (Bool.eq_false_iff.mpr h)).1
    simp only [State.modChan_points, State.withdraw_points, hlocked, true_and]

theorem State.coverChannel_point (f : Fin 4) (c : Fin 16) (s : State) (p : Fin 8) : (s.coverChannel f c).points[p] =
    if s.stopsAt f p c = true then s.points[p].leave c else s.points[p] := by
  have hforced : (s.forceChannel c).points = s.points := by
    unfold State.forceChannel State.forcePair
    split <;> rfl
  have hchan : (s.forceChannel c).chans[c] = { s.chans[c] with forced := true } :=
    (State.forceChannel_get c s c).trans (if_pos rfl)
  unfold State.coverChannel State.stopsAt
  split
  · next ha => rw [ha]; rfl
  · next ha => rw [ha, hforced]; rfl
  · next ha =>
    rw [ha, State.stopChannel_point, hforced, hchan]
    simp [Channel.waitsAt, -Fin.getElem_fin]

/-- One source acts on a list of channels: those that it stops leave the point. -/
theorem forEach_coverChannel_point (f : Fin 4) {cs : List (Fin 16)} (hnd : cs.Nodup) (s : State) (p : Fin 8) :
    (forEach cs (State.coverChannel f) s).points[p] = (cs.filter (s.stopsAt f p)).foldl Point.leave s.points[p] := by
  induction cs generalizing s with
  | nil => rfl
  | cons c cs ih =>
    obtain ⟨hc, hnd⟩ := List.nodup_cons.mp hnd
    have hrest : cs.filter ((s.coverChannel f c).stopsAt f p) = cs.filter (s.stopsAt f p) := by
      refine List.filter_congr fun x hx => ?_
      have hne : x ≠ c := fun h => hc (h ▸ hx)
      rw [State.stopsAt, (coverChannel_sources f c s).faults, State.coverChannel_get, if_neg hne]
      rfl
    rw [forEach_cons, ih hnd, hrest, State.coverChannel_point, List.filter_cons]
    split <;> rfl

/-! ## The latching -/

/-- The source has an action and names the channel tested: what it covers once it is latched (R103). -/
def State.aimsAt (s : State) (f : Fin 4) (x : Fin 16) : Bool :=
  s.faults[f].action != .none && s.faults[f].chans.has (s.testedChannel x)

/-- The channels a source stops when it latches (R105). -/
def State.stops (s : State) (f : Fin 4) (x : Fin 16) : Bool :=
  s.aimsAt f x && s.faults[f].action == .stop && !s.chans[x].locked && s.chans[x].state != .faulted

theorem State.raised_reports (f : Fin 4) (s : State) :
    (s.raised f).reports = s.reports.offer (.faultRaised f s.faults[f].chans s.faults[f].action) := by
  have hactive := State.modFault_get f f (fun src => { src with active := true }) s
  rw [if_pos rfl] at hactive
  exact (congrArg (fun src : FaultSource => s.reports.offer (.faultRaised f src.chans src.action)) hactive).trans rfl

theorem State.raised_covers (f : Fin 4) (s : State) (x : Fin 16) : (s.raised f).covers f x = s.aimsAt f x := by
  rw [State.covers, State.raised_get, if_pos rfl]
  rfl

/-- The channels a latching acts on. -/
def State.targets (s : State) (f : Fin 4) : List (Fin 16) := (List.finRange 16).filter (s.aimsAt f)

theorem State.mem_targets (s : State) (f : Fin 4) (x : Fin 16) : x ∈ s.targets f ↔ s.aimsAt f x = true := by
  simp [State.targets]

theorem State.nodup_targets (s : State) (f : Fin 4) : (s.targets f).Nodup := (List.nodup_finRange 16).filter _

theorem State.activateFault_eq {f : Fin 4} {s : State} (h : s.faults[f].latched = false) :
    s.activateFault f = forEach (s.targets f) (State.coverChannel f) (s.raised f) := by
  rw [State.activateFault_of_unlatched h, State.latchFault_eq, State.targets, ← funext (s.raised_covers f)]
  rfl

section latching

variable {f : Fin 4} {s : State} (h : s.faults[f].latched = false)

include h

theorem State.activateFault_actedOn : (s.raised f).ActedOn (s.activateFault f) := by
  rw [State.activateFault_eq h]
  exact forEach_actedOn _ (coverChannel_actedOn f) _

/-- Each channel aimed at is forced, and stopped if the source's action is STOP (R104, R105). -/
theorem State.activateFault_chan (x : Fin 16) : (s.activateFault f).chans[x] =
    { s.chans[x] with
      forced := s.chans[x].forced || s.aimsAt f x
      state := if s.stops f x then .faulted else s.chans[x].state
      pendingControl := if s.stops f x then .none else s.chans[x].pendingControl } := by
  rw [State.activateFault_of_unlatched h, State.latchFault_get]
  have haction := State.modFault_get f f (fun src => { src with active := true }) s
  rw [if_pos rfl] at haction
  rw [haction, show State.raiseFault f _ = s.raised f from rfl, State.raised_covers, State.modFault_chans]
  by_cases hf : s.chans[x].state = .faulted <;> simp [Channel.act, State.stops, hf, -Fin.getElem_fin]

theorem State.activateFault_point (p : Fin 8) : (s.activateFault f).points[p] =
    ((s.targets f).filter (s.stopsAt f p)).foldl Point.leave s.points[p] := by
  have hstops (x : Fin 16) : (s.raised f).stopsAt f p x = s.stopsAt f p x := by
    rw [State.stopsAt, State.raised_get, if_pos rfl]
    rfl
  rw [State.activateFault_eq h, forEach_coverChannel_point f (s.nodup_targets f), funext hstops]
  rfl

theorem State.activateFault_pair (k : Fin 8) : (s.activateFault f).pairs[k] =
    if s.aimsAt f (evenOf k) = true ∧ s.pairs[k].enabled = true then s.pairs[k].low else s.pairs[k] := by
  have hacts : s.aimsAt f (evenOf k) = true → s.faults[f].action ≠ .none := fun hr =>
    bne_iff_ne.mp (Bool.and_eq_true_iff.mp hr).1
  have hiff : ((s.raised f).faults[f].action ≠ .none ∧ evenOf k ∈ s.targets f ∧ (s.raised f).pairs[k].enabled = true) ↔
      (s.aimsAt f (evenOf k) = true ∧ s.pairs[k].enabled = true) := by
    rw [State.mem_targets, State.raised_get, if_pos rfl]
    exact ⟨fun hk => hk.2, fun hk => ⟨hacts hk.1, hk⟩⟩
  rw [State.activateFault_eq h, forEach_coverChannel_pair, if_congr hiff rfl rfl]
  rfl

end latching

/-- The channels that leave the point are those stopped while they wait at it. -/
theorem State.mem_leaving (s : State) (f : Fin 4) (p : Fin 8) (x : Fin 16) :
    x ∈ (s.targets f).filter (s.stopsAt f p) ↔ s.stops f x = true ∧ s.chans[x].waitsAt p = true := by
  simp only [List.mem_filter, State.mem_targets, State.stops, State.stopsAt, Bool.and_eq_true, bne_iff_ne]
  constructor
  · rintro ⟨hreach, ⟨hstop, hlocked⟩, hwaits⟩
    refine ⟨⟨⟨⟨hreach, hstop⟩, hlocked⟩, ?_⟩, hwaits⟩
    rw [Channel.waiting_of_waitsAt hwaits]
    exact ChState.noConfusion
  · rintro ⟨⟨⟨⟨hreach, hstop⟩, hlocked⟩, -⟩, hwaits⟩
    exact ⟨hreach, ⟨hstop, hlocked⟩, hwaits⟩

/-- Settles O39: the action is taken channel by channel, and what it does to channels, points and pairs adds up. -/
theorem activationLatchesAndActs : Obligations.ActivationLatchesAndActs := by
  intro s f t covered stopped
  have hcovered (x : Fin 16) : covered x = s.aimsAt f x := rfl
  have hstopped (x : Fin 16) : stopped x = s.stops f x := rfl
  refine ⟨State.activateFault_of_latched, fun h => ?_⟩
  obtain ⟨_, _, _, hframe⟩ := State.activateFault_actedOn h
  refine ⟨(s.activateFault_get f f).trans (if_pos rfl), fun j hj => (s.activateFault_get f j).trans (if_neg hj), ?_,
    State.activateFault_chan h, fun p => ?_, fun k => ?_, ?_⟩
  · exact (congrArg State.reports hframe).trans (s.raised_reports f)
  · intro left
    have hleave := State.activateFault_point h p
    have hmem := s.mem_leaving f p
    obtain ⟨hmembers, hgeneration, htimeout⟩ := Point.leave_fixed ((s.targets f).filter (s.stopsAt f p)) s.points[p]
    obtain ⟨hstops, hkeeps⟩ := Point.leave_timer ((s.targets f).filter (s.stopsAt f p)) s.points[p]
    have hleft : left ↔ (s.targets f).filter (s.stopsAt f p) ≠ [] :=
      (exists_congr hmem).symm.trans ⟨fun ⟨_, hx⟩ => List.ne_nil_of_mem hx, List.exists_mem_of_ne_nil _⟩
    simp only [t, hleave]
    refine ⟨hmembers, hgeneration, htimeout, fun x => ?_, fun hl => hstops (hleft.mp hl), fun hl => ?_⟩
    · rw [Point.leave_arrived]
      congr 2
      rw [Bool.eq_iff_iff, decide_eq_true_iff, hmem, Bool.and_eq_true, hstopped]
    · exact hkeeps (hl.imp_left fun hno => not_not.mp (hno ∘ hleft.mpr))
  · rw [hcovered]
    simpa only [Bool.and_eq_true] using State.activateFault_pair h k
  · simp only [t, hframe]
    exact ⟨rfl, rfl, rfl, rfl, rfl, rfl⟩

end Sys2Proof.Machine

namespace Sys2Proof.Machine

/-! # O38: an input sample -/

/-! ## One source and one unit (R99, R113) -/

theorem Polarity.activeAt_iff (p : Polarity) (high : Bool) :
    p.activeAt high = true ↔ (p = .activeLow ∧ high = false) ∨ (p = .activeHigh ∧ high = true) := by
  cases p <;> simp [Polarity.activeAt]

theorem Edge.selects_iff (e : Edge) (high : Bool) :
    e.selects high = true ↔ (e = .rising ∧ high = true) ∨ (e = .falling ∧ high = false) ∨ e = .both := by
  cases e <;> simp [Edge.selects]

section source

variable {src : FaultSource} {i : FltInput} {high : Bool} (hi : src.input = some i)

include hi

/-- The active level lengthens the run, up to the filter value. -/
theorem FaultSource.sample_at_level (h : i.polarity.activeAt high = true) :
    src.sample high = { src with input := some { i with run := min i.filter (i.run + 1) } } := by
  rw [FaultSource.sample, hi]
  exact if_pos h

/-- The inactive level ends the run and the activity. -/
theorem FaultSource.sample_off_level (h : i.polarity.activeAt high = false) :
    src.sample high = { src with input := some { i with run := 0 }, active := false } := by
  rw [FaultSource.sample, hi]
  exact if_neg (Bool.eq_false_iff.mp h)

theorem FaultSource.becomesActive_at_level (h : i.polarity.activeAt high = true) :
    src.becomesActive high = true ↔ i.filter ≤ i.run + 1 ∧ src.active = false := by
  rw [FaultSource.becomesActive, hi]
  simp [h]

theorem FaultSource.becomesActive_off_level (h : i.polarity.activeAt high = false) :
    src.becomesActive high = false := by
  rw [FaultSource.becomesActive, hi]
  simp [h]

end source

/-- A change of level is kept, and counted where the edge field selects it. -/
theorem SpeedUnit.sample_change {u : SpeedUnit} {high : Bool} (hon : u.state ≠ .off) (hp : u.previous = some (!high)) :
    u.sample high = { u with previous := some high
                             edges := if u.edge.selects high then min 65535 (u.edges + 1) else u.edges } := by
  rw [SpeedUnit.sample, if_neg hon, hp]
  exact if_neg (Bool.not_ne_self high)

/-! ## The sample of a state -/

/-- What a sample stores before a source becomes active. -/
def State.sampled (lines : InputLines) (s : State) : State :=
  { s with
    inputs := lines
    samplePhase := 0
    faults := (s.faults.set 0 (s.faults[0].sample lines.flt[0])).set 1 (s.faults[1].sample lines.flt[1])
    units := Vector.ofFn fun u => s.units[u].sample lines.tach[u] }

/-- The sources that become active at a sample (R99). -/
def State.rising (lines : InputLines) (s : State) : List (Fin 4) :=
  (if s.faults[0].becomesActive lines.flt[0] then [(0 : Fin 4)] else []) ++
    (if s.faults[1].becomesActive lines.flt[1] then [1] else [])

theorem State.rising_eq {lines : InputLines} {s : State} {r0 r1 : Bool}
    (h0 : s.faults[0].becomesActive lines.flt[0] = r0) (h1 : s.faults[1].becomesActive lines.flt[1] = r1) :
    s.rising lines = (if r0 then [0] else []) ++ (if r1 then [1] else []) := by
  rw [State.rising, h0, h1]

/-- FLT0's new record leaves FLT1's as it was. -/
theorem State.modFault_sample_eq (lines : InputLines) (s : State) :
    ((({ s with inputs := lines, samplePhase := 0 } : State).mapUnits fun u unit => unit.sample lines.tach[u]).modFault
      0 fun src => src.sample lines.flt[0]).modFault 1 (fun src => src.sample lines.flt[1]) = s.sampled lines := by
  simp [State.modFault, State.mapUnits, State.sampled]

theorem execInputSample_eq {s : State} (hheld : s.held = false) (lines : InputLines) :
    exec (.inputSample lines) s =
      .next (State.settle (forEachInAnyOrder (s.rising lines) State.activateFault (s.sampled lines))) := by
  refine (State.event_of_running hheld _ : execInputSample lines s = _).trans ?_
  dsimp only [State.sampleFaults]
  rw [State.modFault_sample_eq]
  rfl

/-- Settles O38: by which of FLT0 and FLT1 become active; a settled part stays settled where neither does. -/
theorem inputSampleEffect : Obligations.InputSampleEffect := by
  refine ⟨?_, ?_, fun u high => ?_⟩
  · intro s lines hheld hs sampled rises
    have hexec := execInputSample_eq hheld lines
    refine ⟨fun h0 h1 => ?_, fun h0 h1 => ?_, fun h0 h1 => ?_, fun h0 h1 => ?_⟩
    · rw [hexec, State.rising_eq (Bool.eq_false_iff.mpr h0) (Bool.eq_false_iff.mpr h1)]
      exact congrArg Host.Outcome.next (State.settle_of_settled (s.sampled lines) hs)
    · rw [hexec, State.rising_eq h0 (Bool.eq_false_iff.mpr h1)]
      rfl
    · rw [hexec, State.rising_eq (Bool.eq_false_iff.mpr h0) h1]
      rfl
    · obtain ⟨order, n, hperm, heq⟩ := forEachInAnyOrder_eq [(0 : Fin 4), 1] State.activateFault (s.sampled lines)
      have hboth : s.rising lines = [0, 1] := State.rising_eq h0 h1
      rw [hexec, hboth, heq]
      rcases List.perm_pair.mp hperm with rfl | rfl
      · exact ⟨0, n, rfl⟩
      · exact ⟨1, n, rfl⟩
  · intro src i high hi atLevel
    have hlevel := i.polarity.activeAt_iff high
    refine ⟨fun hat => ?_, fun hoff => ?_⟩
    · have hactive := hlevel.mpr hat
      exact ⟨FaultSource.sample_at_level hi hactive, FaultSource.becomesActive_at_level hi hactive⟩
    · have hinactive := Bool.eq_false_iff.mpr (hoff ∘ hlevel.mp)
      exact ⟨FaultSource.sample_off_level hi hinactive, FaultSource.becomesActive_off_level hi hinactive⟩
  · refine ⟨fun hoff => if_pos hoff, fun hon hp => ?_, fun hon hp => ?_, fun hon hp => ?_⟩
    · rw [SpeedUnit.sample, if_neg hon, hp]
    · rw [SpeedUnit.sample, if_neg hon, hp]
      exact if_pos rfl
    · intro selected
      rw [SpeedUnit.sample_change hon hp]
      have hselects := u.edge.selects_iff high
      exact ⟨fun hsel => by rw [if_pos (hselects.mpr hsel)], fun hno => by rw [if_neg (hno ∘ hselects.mp)]⟩

end Sys2Proof.Machine

namespace Sys2Proof.Machine

/-! # O25 and O26: FAULT_CONFIG and FAULT_CLEAR -/

theorem perform_faultConfig (seq : Byte) (p : List Byte) (s : State) :
    perform (requestFrame seq RequestKind.faultConfig.code p) s = takeFaultConfig p s := rfl

theorem perform_faultClear (seq : Byte) (p : List Byte) (s : State) :
    perform (requestFrame seq RequestKind.faultClear.code p) s = takeFaultClear p s := rfl

/-! ## FAULT_CONFIG (R108) -/

theorem action?_code (a : Action) : action? a.code = some a := by cases a <;> rfl

theorem action?_none {v : Nat} (h : 2 < v) : action? v = none := by
  match v, h with
  | _ + 3, _ => rfl

theorem polarity?_none {v : Nat} (h : 1 < v) : polarity? v = none := by
  match v, h with
  | _ + 2, _ => rfl

theorem polarity?_of_le {v : Nat} (h : v ≤ 1) : polarity? v = some (if v = 0 then .activeLow else .activeHigh) := by
  match v, h with
  | 0, _ => rfl
  | 1, _ => rfl

/-- The polarity and filter bytes that a FAULT_CONFIG of source `n` may carry (R98, R108). -/
def InputBytes (n polarity filter : Nat) : Prop :=
  (n ≤ 1 → polarity ≤ 1 ∧ 1 ≤ filter ∧ filter ≤ 16) ∧ (2 ≤ n → polarity = 0 ∧ filter = 0)

theorem fltInput?_of {f : Fin 4} {polarity filter : Nat} (h : InputBytes f.val polarity filter) :
    fltInput? f polarity filter = some (if f.val ≤ 1 then
      some { polarity := if polarity = 0 then .activeLow else .activeHigh, filter := filter, run := 0 }
    else none) := by
  obtain ⟨hflt, hother⟩ := h
  unfold fltInput?
  by_cases hf : f.val ≤ 1
  · obtain ⟨hp, hfilter⟩ := hflt hf
    rw [if_pos (by omega), if_pos hf, polarity?_of_le hp, within?_of hfilter]
  · rw [if_neg (by omega), if_neg hf, if_pos (hother (by omega))]

theorem fltInput?_none {f : Fin 4} {polarity filter : Nat} (h : ¬InputBytes f.val polarity filter) :
    fltInput? f polarity filter = none := by
  unfold fltInput?
  by_cases hf : f.val < 2
  · rw [if_pos hf]
    split
    · next hp hn =>
      refine absurd ⟨fun _ => ⟨?_, ?_⟩, fun h2 => absurd hf (by omega)⟩ h
      · by_contra hgt
        exact absurd (hp.symm.trans (polarity?_none (by omega))) (by simp)
      · by_contra hout
        exact absurd (hn.symm.trans (within?_none hout)) (by simp)
    · rfl
  · rw [if_neg hf]
    exact if_neg fun hzero => h ⟨fun h1 => absurd h1 (by omega), fun _ => hzero⟩

theorem faultConfig_fields {n action polarity filter : Nat} (set : ChSet) (hn : n < 256) (ha : action < 256)
    (hp : polarity < 256) (hf : filter < 256) :
    let p := le8 n ++ le8 action ++ le16 set.toNat ++ le8 polarity ++ le8 filter
    p.length = 6 ∧ u8 p 0 = n ∧ u8 p 1 = action ∧ chSetAt p 2 = set ∧ u8 p 4 = polarity ∧ u8 p 5 = filter :=
  ⟨rfl, toNat_ofNat_byte hn, toNat_ofNat_byte ha, chSetAt_le16 set, toNat_ofNat_byte hp, toNat_ofNat_byte hf⟩

theorem takeFaultConfig_badLength {p : List Byte} (hlen : p.length ≠ 6) (s : State) :
    takeFaultConfig p s = refuse .badLength s := if_pos hlen

theorem takeFaultConfig_badArg {p : List Byte} (hlen : p.length = 6)
    (h : ¬(u8 p 0 ≤ 3 ∧ u8 p 1 ≤ 2 ∧ InputBytes (u8 p 0) (u8 p 4) (u8 p 5))) (s : State) :
    takeFaultConfig p s = refuse .badArg s := by
  rw [takeFaultConfig, if_neg (not_not.mpr hlen)]
  by_cases hn : u8 p 0 ≤ 3
  · obtain ⟨f, hf⟩ : ∃ f : Fin 4, u8 p 0 = f.val := ⟨⟨u8 p 0, by omega⟩, rfl⟩
    by_cases ha : u8 p 1 ≤ 2
    · have hinput : ¬InputBytes f.val (u8 p 4) (u8 p 5) := fun hin => h ⟨hn, ha, hf ▸ hin⟩
      rw [hf, element?_val]
      cases action? (u8 p 1) with
      | none => rfl
      | some a =>
        dsimp only
        rw [fltInput?_none hinput]
    · rw [action?_none (by omega)]
      cases element? 4 (u8 p 0) <;> rfl
  · rw [element?_none (by omega)]

/-- A request with its fields in range is refused by a latched source alone. -/
theorem takeFaultConfig_inArg {p : List Byte} {f : Fin 4} {a : Action} (hlen : p.length = 6) (hf : u8 p 0 = f.val)
    (ha : u8 p 1 = a.code) (hin : InputBytes f.val (u8 p 4) (u8 p 5)) (s : State) :
    takeFaultConfig p s =
      if s.faults[f].latched then refuse .state s
      else accept .ok [] (s.modFault f fun src =>
        { src with
          action := a, chans := chSetAt p 2
          input := if f.val ≤ 1 then
              some { polarity := if u8 p 4 = 0 then .activeLow else .activeHigh, filter := u8 p 5, run := 0 }
            else none }) := by
  rw [takeFaultConfig, if_neg (not_not.mpr hlen), hf, element?_val, ha, action?_code]
  dsimp only
  rw [fltInput?_of hin]

/-- Settles O25: the fields are read back from the payload, and only a latched source refuses them then. -/
theorem faultConfigEffect : Obligations.FaultConfigEffect := by
  refine ⟨fun s seq p hlen hready =>
    refused_of_perform (k := .faultConfig) hready (takeFaultConfig_badLength hlen _), ?_⟩
  intro s seq n action set polarity filter hn ha hp hf c inRange hready
  obtain ⟨hlen, h0, h1, hset, h4, h5⟩ := faultConfig_fields set hn ha hp hf
  refine ⟨fun hbad => refused_of_perform (k := .faultConfig) hready ?_, fun f a hnf haa hin => ?_⟩
  · rw [perform_faultConfig]
    exact takeFaultConfig_badArg hlen (by rw [h0, h1, h4, h5]; exact hbad) s.heard
  · subst hnf
    obtain ⟨-, -, hbytes⟩ := hin
    have htake := takeFaultConfig_inArg hlen h0 (h1.trans haa)
      (by rw [h4, h5]; exact hbytes) s.heard
    obtain ⟨hlatched, -⟩ := s.heard_fault f
    rw [hset, h4, h5, hlatched] at htake
    refine ⟨fun hl => refused_of_perform (k := .faultConfig) hready ?_,
      fun hl => accepted_of_perform (k := .faultConfig) hready ?_⟩
    · exact htake.trans (if_pos hl)
    · exact htake.trans (if_neg (Bool.eq_false_iff.mp hl))

/-! ## FAULT_CLEAR (R106, R107) -/

theorem takeFaultClear_badLength {p : List Byte} (hlen : p.length ≠ 1) (s : State) :
    takeFaultClear p s = refuse .badLength s := if_pos hlen

theorem takeFaultClear_badArg {p : List Byte} (hlen : p.length = 1) (h : 3 < u8 p 0) (s : State) :
    takeFaultClear p s = refuse .badArg s := by
  rw [takeFaultClear, if_neg (not_not.mpr hlen), element?_none h]

theorem takeFaultClear_inArg {p : List Byte} {f : Fin 4} (hlen : p.length = 1) (h : u8 p 0 = f.val) (s : State) :
    takeFaultClear p s =
      if s.faults[f].active then refuse .faultActive s
      else if s.faults[f].latched then accept .ok [] (s.clearFault f)
      else accept .ok [] s := by
  rw [takeFaultClear, if_neg (not_not.mpr hlen), h, element?_val]

theorem Channel.returned_eq (ch : Channel) :
    ch.returned = { ch with state := if ch.queue = [] then .idle else .paused } := by
  simp only [Channel.returned, List.isEmpty_iff]

/-- Settles O26: the checks follow one another, and a clear returns the channels that the unlatching leaves uncovered. -/
theorem faultClearEffect : Obligations.FaultClearEffect := by
  refine ⟨fun s seq p hlen hready => refused_of_perform (k := .faultClear) hready (takeFaultClear_badLength hlen _), ?_⟩
  intro s seq n c u hready
  refine ⟨fun hn => refused_of_perform (k := .faultClear) hready (takeFaultClear_badArg (p := [n]) rfl hn _),
    fun f hf => ?_⟩
  have htake : perform (requestFrame seq RequestKind.faultClear.code [n]) s.heard = _ :=
    takeFaultClear_inArg (p := [n]) rfl hf s.heard
  refine ⟨fun ha => ?_, fun ha hl => ?_, fun ha hl => ?_⟩
  · exact refused_of_perform (k := .faultClear) hready (htake.trans (if_pos ha))
  · rw [if_neg (Bool.eq_false_iff.mp ha), if_neg (Bool.eq_false_iff.mp hl)] at htake
    exact accepted_of_perform (k := .faultClear) hready htake
  · intro t
    rw [if_neg (Bool.eq_false_iff.mp ha), if_pos hl, State.clearFault_eq] at htake
    simp only [Channel.returned_eq] at htake
    exact accepted_of_perform (k := .faultClear) hready htake

end Sys2Proof.Machine

namespace Sys2Proof.Machine

/-! # O27: SM_CONFIG -/

theorem perform_smConfig (seq : Byte) (p : List Byte) (s : State) :
    perform (requestFrame seq RequestKind.smConfig.code p) s = takeSmConfig p s := rfl

theorem edge?_code (e : Edge) : edge? e.code = some e := by cases e <;> rfl

theorem edge?_none {v : Nat} (h : 2 < v) : edge? v = none := by
  match v, h with
  | _ + 3, _ => rfl

theorem edge?_le {v : Nat} {e : Edge} (h : edge? v = some e) : v ≤ 2 := by
  by_contra hout
  exact absurd (h.symm.trans (edge?_none (Nat.lt_of_not_le hout))) (by simp)

theorem mark?_le {v : Nat} {b : Bool} (h : mark? v = some b) : v ≤ 1 := by
  by_contra hout
  exact absurd (h.symm.trans (mark?_none (Nat.lt_of_not_le hout))) (by simp)

theorem within?_inRange {lo hi v n : Nat} (h : within? lo hi v = some n) : lo ≤ v ∧ v ≤ hi := by
  by_contra hout
  exact absurd (h.symm.trans (within?_none hout)) (by simp)

/-- The bytes of an SM_CONFIG after the unit's number are in their ranges (R118). -/
def UnitBytes (enable edge window min max limit link : Nat) : Prop :=
  enable ≤ 1 ∧ edge ≤ 2 ∧ 1 ≤ window ∧ window ≤ 2000 ∧ min ≤ max ∧ 1 ≤ limit ∧ limit ≤ 15 ∧ link ≤ 1

/-- `UnitBytes` at the places where `unitConfig?` reads a payload. -/
def UnitBytesAt (p : List Byte) : Prop :=
  UnitBytes (u8 p 1) (u8 p 2) (u16 p 3) (u16 p 5) (u16 p 7) (u8 p 9) (u8 p 10)

theorem unitConfig?_none {p : List Byte} (h : ¬UnitBytesAt p) : unitConfig? p = none := by
  unfold unitConfig?
  split
  · next enable edge window limit link henable hedge hwindow hlimit hlink =>
    refine if_pos (Nat.lt_of_not_le fun hle => h ?_)
    obtain ⟨hwlo, hwhi⟩ := within?_inRange hwindow
    obtain ⟨hklo, hkhi⟩ := within?_inRange hlimit
    exact ⟨mark?_le henable, edge?_le hedge, hwlo, hwhi, hle, hklo, hkhi, mark?_le hlink⟩
  · rfl

/-- The fields of an SM_CONFIG whose bytes are in range. -/
theorem unitConfig?_inArg {p : List Byte} {e : Edge} (h : UnitBytesAt p) (he : u8 p 2 = e.code) :
    unitConfig? p = some { enable := decide (u8 p 1 = 1), edge := e, window := u16 p 3, minCount := u16 p 5,
                           maxCount := u16 p 7, limit := u8 p 9, link := decide (u8 p 10 = 1) } := by
  obtain ⟨henable, -, hwlo, hwhi, hcounts, hklo, hkhi, hlink⟩ := h
  rw [unitConfig?, mark?_of_le henable, he, edge?_code, within?_of ⟨hwlo, hwhi⟩, within?_of ⟨hklo, hkhi⟩,
    mark?_of_le hlink]
  exact if_neg (Nat.not_lt.mpr hcounts)

theorem smConfig_fields {n enable edge window min max limit link : Nat} (hn : n < 256) (henable : enable < 256)
    (hedge : edge < 256) (hwindow : window < 65536) (hmin : min < 65536) (hmax : max < 65536) (hlimit : limit < 256)
    (hlink : link < 256) :
    let p := le8 n ++ le8 enable ++ le8 edge ++ le16 window ++ le16 min ++ le16 max ++ le8 limit ++ le8 link
    p.length = 11 ∧ u8 p 0 = n ∧ u8 p 1 = enable ∧ u8 p 2 = edge ∧ u16 p 3 = window ∧ u16 p 5 = min ∧
      u16 p 7 = max ∧ u8 p 9 = limit ∧ u8 p 10 = link :=
  ⟨rfl, toNat_ofNat_byte hn, toNat_ofNat_byte henable, toNat_ofNat_byte hedge, toNat_ofNat_bytes hwindow,
    toNat_ofNat_bytes hmin, toNat_ofNat_bytes hmax, toNat_ofNat_byte hlimit, toNat_ofNat_byte hlink⟩

theorem takeSmConfig_badLength {p : List Byte} (hlen : p.length ≠ 11) (s : State) :
    takeSmConfig p s = refuse .badLength s := if_pos hlen

theorem takeSmConfig_badArg {p : List Byte} (hlen : p.length = 11) (h : ¬(u8 p 0 ≤ 3 ∧ UnitBytesAt p)) (s : State) :
    takeSmConfig p s = refuse .badArg s := by
  rw [takeSmConfig, if_neg (not_not.mpr hlen)]
  by_cases hn : u8 p 0 ≤ 3
  · rw [unitConfig?_none fun hin => h ⟨hn, hin⟩]
    cases element? 4 (u8 p 0) <;> rfl
  · rw [element?_none (by omega)]

/-- SPEED's source alone changes where SPEED follows the units. -/
theorem State.settleSpeed_frame (s : State) : ∃ v, s.settleSpeed = { s with faults := v } := by
  unfold State.settleSpeed
  split
  · exact ⟨s.faults, rfl⟩
  · exact ⟨_, rfl⟩

theorem State.settleSpeed_units (s : State) : s.settleSpeed.units = s.units := by
  obtain ⟨_, hframe⟩ := s.settleSpeed_frame
  rw [hframe]

/-- The answer carries the unit's new record (R119). -/
theorem takeSmConfig_inArg {p : List Byte} {i : Fin 4} {cfg : UnitConfig} (hlen : p.length = 11)
    (hi : u8 p 0 = i.val) (hcfg : unitConfig? p = some cfg) (s : State) :
    takeSmConfig p s = accept .ok (s.units[i].configure cfg).payload
      (s.modUnit i fun _ => s.units[i].configure cfg).settleSpeed := by
  have hunit : (s.modUnit i fun unit => unit.configure cfg).settleSpeed.units[i] = s.units[i].configure cfg := by
    rw [State.settleSpeed_units, State.modUnit_get, if_pos rfl]
  rw [takeSmConfig, if_neg (not_not.mpr hlen), hi, element?_val, hcfg]
  exact congrArg (fun unit : SpeedUnit => accept .ok unit.payload _) hunit

/-- Settles O27: the fields are read back from the payload, and nothing but their ranges refuses them. -/
theorem smConfigEffect : Obligations.SmConfigEffect := by
  refine ⟨fun s seq p hlen hready => refused_of_perform (k := .smConfig) hready (takeSmConfig_badLength hlen _), ?_⟩
  intro s seq n enable edge window min max K link hn henable hedge hwindow hmin hmax hK hlink c inRange hready
  obtain ⟨hlen, h0, h1, h2, h3, h5, h7, h9, h10⟩ := smConfig_fields hn henable hedge hwindow hmin hmax hK hlink
  refine ⟨fun hbad => refused_of_perform (k := .smConfig) hready ?_, fun i e hni hee hin => ?_⟩
  · rw [perform_smConfig]
    exact takeSmConfig_badArg hlen (by rw [UnitBytesAt, h0, h1, h2, h3, h5, h7, h9, h10]; exact hbad) s.heard
  · intro unit t
    obtain ⟨-, hbytes⟩ := hin
    have hcfg := unitConfig?_inArg (by rw [UnitBytesAt, h1, h2, h3, h5, h7, h9, h10]; exact hbytes) (h2.trans hee)
    rw [h1, h3, h5, h7, h9, h10] at hcfg
    have hunit : s.units[i].configure
        { enable := decide (enable = 1), edge := e, window := window, minCount := min, maxCount := max, limit := K,
          link := decide (link = 1) } = unit := by
      simp only [SpeedUnit.configure, decide_eq_true_eq, unit]
    have htake := takeSmConfig_inArg hlen (h0.trans hni) hcfg s.heard
    rw [State.heard_units, hunit] at htake
    exact accepted_of_perform (k := .smConfig) hready htake

end Sys2Proof.Machine

namespace Sys2Proof.Machine

/-! # O36: the end of a speed window -/

/-! ## The unit whose window ends (R114 to R116) -/

section unit

variable {u : SpeedUnit}

/-- The count just latched is the one that the window made. -/
theorem SpeedUnit.closeWindow_outOfRange (u : SpeedUnit) :
    u.closeWindow.outOfRange = true ↔ u.edges < u.minCount ∨ u.maxCount < u.edges := by
  rw [SpeedUnit.outOfRange, Bool.or_eq_true, decide_eq_true_iff, decide_eq_true_iff]
  rfl

theorem SpeedUnit.judge_firstWindow (h : u.state = .firstWindow) :
    u.closeWindow.judge = { u.closeWindow with state := .measuring } := by
  simp only [SpeedUnit.judge, SpeedUnit.closeWindow, h]

section measuring

variable (h : u.state = .measuring)

include h

theorem SpeedUnit.judge_measuring : u.closeWindow.judge =
    if u.edges < u.minCount ∨ u.maxCount < u.edges then
      { u.closeWindow with streak := min 15 (u.streak + 1), inRange := false, limitReported := true }
    else { u.closeWindow with streak := 0, inRange := true, limitReported := false } := by
  refine Eq.trans ?_ (if_congr u.closeWindow_outOfRange rfl rfl)
  simp only [SpeedUnit.judge, SpeedUnit.closeWindow, h]

/-- A judged window is reported where the limits are left or met again. -/
theorem SpeedUnit.closeWindow_windowReport (i : Fin 4) : u.closeWindow.windowReport i =
    if u.edges < u.minCount ∨ u.maxCount < u.edges then
      (if u.limitReported = true then none
      else some (.speedLimit i u.edges (if u.edges < u.minCount then .low else .high)))
    else if u.limitReported = true then some (.speedOk i u.edges)
    else none := by
  have hmeasures : u.closeWindow.state = .measuring := h
  rw [SpeedUnit.windowReport, if_neg (not_not.mpr hmeasures)]
  exact if_congr u.closeWindow_outOfRange rfl rfl

end measuring

end unit

/-! ## What SPEED's source does at its activation -/

theorem vector_ext_fin {α : Type} {n : Nat} {v w : Vector α n} (h : ∀ i : Fin n, v[i] = w[i]) : v = w :=
  Vector.ext fun i hi => h ⟨i, hi⟩

/-- The blocks that a source's action reads and changes are the same. -/
structure SameActedOn (s t : State) : Prop where
  chans : t.chans = s.chans
  points : t.points = s.points
  pairs : t.pairs = s.pairs
  faults : t.faults = s.faults

/-- A source acts alike on the same channels, points and pairs. -/
theorem SameActedOn.activateFault {s t : State} (h : SameActedOn s t) (f : Fin 4) :
    (t.activateFault f).chans = (s.activateFault f).chans ∧ (t.activateFault f).pairs = (s.activateFault f).pairs ∧
      (t.activateFault f).points = (s.activateFault f).points := by
  obtain ⟨hchans, hpoints, hpairs, hfaults⟩ := h
  cases hl : s.faults[f].latched with
  | true =>
    rw [State.activateFault_of_latched hl, State.activateFault_of_latched (by rw [hfaults, hl])]
    exact ⟨hchans, hpairs, hpoints⟩
  | false =>
    have hlt : t.faults[f].latched = false := by rw [hfaults, hl]
    have haims : t.aimsAt f = s.aimsAt f := by
      funext x
      rw [State.aimsAt, State.testedChannel, hfaults, hpairs]
      rfl
    have hstops : t.stops f = s.stops f := by
      funext x
      rw [State.stops, haims, hfaults, hchans]
      rfl
    refine ⟨vector_ext_fin fun x => ?_, vector_ext_fin fun k => ?_, vector_ext_fin fun p => ?_⟩
    · rw [State.activateFault_chan hlt, State.activateFault_chan hl, haims, hstops, hchans]
    · rw [State.activateFault_pair hlt, State.activateFault_pair hl, haims, hpairs]
    · have hat : t.stopsAt f p = s.stopsAt f p := by
        funext x
        rw [State.stopsAt, hfaults, hchans]
        rfl
      rw [State.activateFault_point hlt, State.activateFault_point hl, State.targets, State.targets, haims, hat,
        hpoints]

/-- FAULT_RAISED enters once for each latching (R102). -/
theorem State.activateFault_reports (f : Fin 4) (s : State) : (s.activateFault f).reports =
    if s.faults[f].latched = true then s.reports
    else s.reports.offer (.faultRaised f s.faults[f].chans s.faults[f].action) := by
  cases hl : s.faults[f].latched with
  | true =>
    rw [State.activateFault_of_latched hl]
    rfl
  | false =>
    obtain ⟨_, _, _, hframe⟩ := State.activateFault_actedOn hl
    exact (congrArg State.reports hframe).trans (s.raised_reports f)

/-! ## What the window's end leaves as it is -/

/-- The timebases, the free list, the units and every source but SPEED are the same. -/
structure OnlySpeed (s t : State) : Prop where
  tbs : t.tbs = s.tbs
  free : t.free = s.free
  units : t.units = s.units
  faults : ∀ f : Fin 4, f ≠ speed → t.faults[f] = s.faults[f]

namespace OnlySpeed

variable {s t u : State}

theorem refl (s : State) : OnlySpeed s s := ⟨rfl, rfl, rfl, fun _ _ => rfl⟩

theorem trans (h : OnlySpeed s t) (g : OnlySpeed t u) : OnlySpeed s u :=
  ⟨g.tbs.trans h.tbs, g.free.trans h.free, g.units.trans h.units, fun f hf => (g.faults f hf).trans (h.faults f hf)⟩

theorem modFault (g : FaultSource → FaultSource) (s : State) : OnlySpeed s (s.modFault speed g) :=
  ⟨rfl, rfl, rfl, fun f hf => (State.modFault_get speed f g s).trans (if_neg hf)⟩

theorem anyAsserting (h : OnlySpeed s t) : t.anyAsserting = s.anyAsserting :=
  State.anyAsserting_congr fun i => by rw [h.units]

end OnlySpeed

theorem activateSpeed_onlySpeed (s : State) : OnlySpeed s (s.activateFault speed) := by
  have hfaults (f : Fin 4) (hf : f ≠ speed) := (s.activateFault_get speed f).trans (if_neg hf)
  cases hl : s.faults[speed].latched with
  | true =>
    rw [State.activateFault_of_latched hl]
    exact .modFault _ s
  | false =>
    obtain ⟨_, _, _, hframe⟩ := State.activateFault_actedOn hl
    exact ⟨(congrArg State.tbs hframe :), (congrArg State.free hframe :), s.activateFault_units speed, hfaults⟩

theorem windowEffect_onlySpeed (e : WindowEffect) (s : State) : OnlySpeed s (s.windowEffect e) := by
  cases e with
  | report r => exact ⟨rfl, rfl, rfl, fun _ _ => rfl⟩
  | raiseSpeed => exact activateSpeed_onlySpeed s

theorem settleSpeed_onlySpeed (s : State) : OnlySpeed s s.settleSpeed := by
  unfold State.settleSpeed
  split
  · exact .refl s
  · exact .modFault _ s

/-- SPEED follows the units once it is active while one asserts it (R101). -/
theorem State.settleSpeed_speed {s : State} (h : s.anyAsserting = true → s.faults[speed].active = true) :
    s.settleSpeed.faults[speed].active = s.settleSpeed.anyAsserting := by
  rw [(settleSpeed_onlySpeed s).anyAsserting]
  cases ha : s.anyAsserting with
  | true => rw [State.settleSpeed, if_pos ha, h ha]
  | false =>
    rw [State.settleSpeed, if_neg (Bool.eq_false_iff.mp ha)]
    exact congrArg FaultSource.active ((State.modFault_get _ _ _ _).trans (if_pos rfl))

/-! ## The window's end as its effects in some order -/

/-- The unit judged, before anything is reported or raised. -/
def State.judged (i : Fin 4) (s : State) : State := s.modUnit i fun u => u.closeWindow.judge

/-- What the end of a window hands to other blocks. -/
def State.windowEffects (i : Fin 4) (s : State) : List WindowEffect :=
  (s.units[i].closeWindow.windowReport i).toList.map .report ++
    if !s.anyAsserting && (s.judged i).anyAsserting then [.raiseSpeed] else []

theorem State.expireWindow_eq (i : Fin 4) (s : State) : ∃ order n, order.Perm (s.windowEffects i) ∧
    s.expireWindow i = (forEach order State.windowEffect { s.judged i with choice := n }).settleSpeed := by
  obtain ⟨order, n, hperm, heq⟩ := forEachInAnyOrder_eq (s.windowEffects i) State.windowEffect (s.judged i)
  exact ⟨order, n, hperm, congrArg State.settleSpeed heq⟩

theorem forEach_windowEffect_onlySpeed (es : List WindowEffect) (s : State) :
    OnlySpeed s (forEach es State.windowEffect s) :=
  forEach_induction (OnlySpeed s) es _ (fun e _ u hu => hu.trans (windowEffect_onlySpeed e u)) s (.refl s)

theorem expireWindow_onlySpeed (i : Fin 4) (s : State) : OnlySpeed (s.judged i) (s.expireWindow i) := by
  obtain ⟨order, n, -, heq⟩ := s.expireWindow_eq i
  rw [heq]
  have hchoice : OnlySpeed (s.judged i) { s.judged i with choice := n } := ⟨rfl, rfl, rfl, fun _ _ => rfl⟩
  exact (hchoice.trans (forEach_windowEffect_onlySpeed order _)).trans (settleSpeed_onlySpeed _)

theorem State.expireWindow_unit (i j : Fin 4) (s : State) :
    (s.expireWindow i).units[j] = if j = i then s.units[i].closeWindow.judge else s.units[j] := by
  rw [(expireWindow_onlySpeed i s).units]
  exact State.modUnit_get i j _ s

/-- SPEED is raised with the first asserting unit, and ends with the last one (R101). -/
theorem State.expireWindow_speed {s : State} (h : s.faults[speed].active = s.anyAsserting) (i : Fin 4) :
    (s.expireWindow i).faults[speed].active = (s.expireWindow i).anyAsserting := by
  obtain ⟨order, n, hperm, heq⟩ := s.expireWindow_eq i
  rw [heq]
  refine State.settleSpeed_speed fun hasserts => ?_
  have hjudged : (s.judged i).anyAsserting = true :=
    (forEach_windowEffect_onlySpeed order { s.judged i with choice := n }).anyAsserting.symm.trans hasserts
  have hbefore : ({ s.judged i with choice := n } : State).faults[speed].active = s.anyAsserting := h
  rw [forEach_windowEffect_speed, hbefore]
  cases ha : s.anyAsserting with
  | true => rfl
  | false =>
    rw [Bool.false_or, decide_eq_true_iff, hperm.mem_iff, State.windowEffects, ha, hjudged]
    exact List.mem_append_right _ (List.mem_singleton.mpr rfl)

/-! ## The reports and the activation, by whether the first unit begins to assert SPEED -/

/-- The queue after the unit's own report, if it queues one. -/
def ReportQueue.offerOwn (q : ReportQueue) : Option Report → ReportQueue
  | some r => q.offer r
  | none => q

/-- The unit judged, with a count of orders drawn and the reports given. -/
def State.judgedWith (i : Fin 4) (n : Nat) (q : ReportQueue) (s : State) : State :=
  { s.judged i with choice := n, reports := q }

theorem State.judgedWith_sameActedOn (i : Fin 4) (n : Nat) (q : ReportQueue) (s : State) :
    SameActedOn s (s.judgedWith i n q) := ⟨rfl, rfl, rfl, rfl⟩

section effects

variable {s : State} {i : Fin 4}

/-- Without an activation only the unit's own report enters. -/
theorem State.expireWindow_quiet (h : ¬(s.anyAsserting = false ∧ (s.judged i).anyAsserting = true)) :
    (s.expireWindow i).reports = s.reports.offerOwn (s.units[i].closeWindow.windowReport i) ∧
      (s.expireWindow i).chans = s.chans ∧ (s.expireWindow i).pairs = s.pairs ∧
      (s.expireWindow i).points = s.points := by
  obtain ⟨order, n, hperm, heq⟩ := s.expireWindow_eq i
  obtain ⟨_, hframe⟩ := (forEach order State.windowEffect { s.judged i with choice := n }).settleSpeed_frame
  have hnone : (!s.anyAsserting && (s.judged i).anyAsserting) = false := by
    refine Bool.eq_false_iff.mpr fun hboth => h ?_
    rwa [Bool.and_eq_true, Bool.not_eq_true'] at hboth
  rw [State.windowEffects, hnone] at hperm
  rw [heq, hframe]
  cases hown : s.units[i].closeWindow.windowReport i with
  | none =>
    rw [hown] at hperm
    obtain rfl := List.perm_nil.mp hperm
    exact ⟨rfl, rfl, rfl, rfl⟩
  | some r =>
    rw [hown] at hperm
    obtain rfl := List.perm_singleton.mp hperm
    exact ⟨rfl, rfl, rfl, rfl⟩

/-- SPEED's activation comes after the unit's own report, or before it. -/
theorem State.expireWindow_raising (h : s.anyAsserting = false ∧ (s.judged i).anyAsserting = true)
    {own : Option Report} (hown : s.units[i].closeWindow.windowReport i = own) : ∃ n v,
    s.expireWindow i = { (s.judgedWith i n (s.reports.offerOwn own)).activateFault speed with faults := v } ∨
      ∃ r, own = some r ∧
        s.expireWindow i = { ((s.judgedWith i n s.reports).activateFault speed).offer r with faults := v } := by
  obtain ⟨order, n, hperm, heq⟩ := s.expireWindow_eq i
  obtain ⟨v, hframe⟩ := (forEach order State.windowEffect { s.judged i with choice := n }).settleSpeed_frame
  obtain ⟨hbefore, hafter⟩ := h
  rw [State.windowEffects, hbefore, hafter, hown] at hperm
  refine ⟨n, v, ?_⟩
  rw [heq, hframe]
  cases own with
  | none =>
    obtain rfl := List.perm_singleton.mp hperm
    exact .inl rfl
  | some r =>
    rcases List.perm_pair.mp hperm with rfl | rfl
    · exact .inl rfl
    · exact .inr ⟨r, rfl, rfl⟩

/-- Where the first unit begins to assert SPEED, the action is that of SPEED's activation. -/
theorem State.expireWindow_acts (h : s.anyAsserting = false ∧ (s.judged i).anyAsserting = true) :
    (s.expireWindow i).chans = (s.activateFault speed).chans ∧
      (s.expireWindow i).pairs = (s.activateFault speed).pairs ∧
      (s.expireWindow i).points = (s.activateFault speed).points := by
  obtain ⟨n, v, heq | ⟨r, -, heq⟩⟩ := State.expireWindow_raising h rfl
  · rw [heq]
    exact (s.judgedWith_sameActedOn i n _).activateFault speed
  · rw [heq]
    exact (s.judgedWith_sameActedOn i n _).activateFault speed

/-- The reports of a window's end that raises SPEED. -/
theorem State.expireWindow_reports (h : s.anyAsserting = false ∧ (s.judged i).anyAsserting = true) :
    let report := s.units[i].closeWindow.windowReport i
    let raised := Report.faultRaised speed s.faults[speed].chans s.faults[speed].action
    (s.faults[speed].latched = true → (s.expireWindow i).reports = s.reports.offerOwn report) ∧
      (s.faults[speed].latched = false → (s.expireWindow i).reports = (s.reports.offerOwn report).offer raised ∨
        ∃ r, report = some r ∧ (s.expireWindow i).reports = (s.reports.offer raised).offer r) := by
  intro report raised
  obtain ⟨n, v, heq | ⟨r, hr, heq⟩⟩ := State.expireWindow_raising h rfl
  · have hreports : (s.expireWindow i).reports =
        if s.faults[speed].latched = true then s.reports.offerOwn report
        else (s.reports.offerOwn report).offer raised := by
      rw [heq]
      exact State.activateFault_reports _ _
    rw [hreports]
    exact ⟨fun hl => if_pos hl, fun hl => .inl (if_neg (Bool.eq_false_iff.mp hl))⟩
  · have hreports : (s.expireWindow i).reports =
        (if s.faults[speed].latched = true then s.reports else s.reports.offer raised).offer r := by
      rw [heq]
      exact congrArg (ReportQueue.offer r) (State.activateFault_reports _ _)
    have hown : s.reports.offerOwn report = s.reports.offer r := congrArg s.reports.offerOwn hr
    rw [hreports, hown]
    exact ⟨fun hl => by rw [if_pos hl], fun hl => .inr ⟨r, hr, by rw [if_neg (Bool.eq_false_iff.mp hl)]⟩⟩

end effects

/-- A window's row, due and not yet taken, is the end of the window and the arbiter's choice (log entry 4). -/
theorem execSpeedWindowExpiry_eq {s : State} {i : Fin 4} {e : Nat} (hheld : s.held = false)
    (htimer : s.units[i].timer = some e) (hdue : s.units[i].window ≤ e + 1) (hfresh : MsTimer.window i ∉ s.msDone) :
    exec (.speedWindowExpiry i) s =
      .next (State.settle { s.expireWindow i with msDone := .window i :: (s.expireWindow i).msDone }) := by
  have htaken : (s.due (.window i) && s.untaken (.window i)) = true := by
    simp [State.due, State.untaken, htimer, hdue, hfresh, -Fin.getElem_fin]
  exact (State.event_of_running hheld _ : execSpeedWindowExpiry i s = _).trans
    (congrArg (fun u : State => Host.Outcome.next u.settle) (if_pos htaken))

/-- Settles O36: the unit is judged, its effects follow in the order drawn, and SPEED follows the units. -/
theorem speedWindowExpiryEffect : Obligations.SpeedWindowExpiryEffect := by
  refine ⟨?_, ?_⟩
  · intro s i e hheld hs htimer hdue hfresh hspeed u out closed
    have hback := expireWindow_background i s
    have hrest := expireWindow_onlySpeed i s
    have hunit (j : Fin 4) := s.expireWindow_unit i j
    have hfollows := State.expireWindow_speed hspeed i
    refine ⟨_, execSpeedWindowExpiry_eq hheld htimer hdue hfresh, ?_⟩
    generalize s.expireWindow i = expired at hback hrest hunit hfollows ⊢
    obtain ⟨l, q, hsettle⟩ := State.settle_frame
      (t := { expired with msDone := .window i :: expired.msDone }) hs hback.link
    rw [hsettle]
    refine ⟨fun hfirst => ?_, fun hmeas hout => ?_, fun hmeas hin => ?_, fun j hj => (hunit j).trans (if_neg hj),
      hfollows, hrest.faults, hrest.tbs, hback.routes, hback.idles, hrest.free⟩
    · exact (hunit i).trans ((if_pos rfl).trans (SpeedUnit.judge_firstWindow hfirst))
    · exact (hunit i).trans ((if_pos rfl).trans ((SpeedUnit.judge_measuring hmeas).trans (if_pos hout)))
    · exact (hunit i).trans ((if_pos rfl).trans ((SpeedUnit.judge_measuring hmeas).trans (if_neg hin)))
  · intro s i u t out report own raised begins hmeas
    have hreport : u.closeWindow.windowReport i = report := SpeedUnit.closeWindow_windowReport hmeas i
    have hown : own = s.reports.offerOwn report := rfl
    have hbegins : begins ↔ s.anyAsserting = false ∧ (s.judged i).anyAsserting = true := by
      rw [← (expireWindow_onlySpeed i s).anyAsserting]
    rw [hown, ← hreport]
    refine ⟨fun hquiet => State.expireWindow_quiet (hquiet ∘ hbegins.mpr), fun hraise => ?_⟩
    obtain ⟨hchans, hpairs, hpoints⟩ := State.expireWindow_acts (hbegins.mp hraise)
    exact ⟨hchans, hpairs, hpoints, State.expireWindow_reports (hbegins.mp hraise)⟩

end Sys2Proof.Machine

namespace Sys2Proof.Machine

/-! # What a step does to the link, said once

An event of the running part ends with the choice of the arbiter (R131). Before that choice it is one of few things as
far as the link is concerned (`LinkEvent`), and a command is such an event with its choice, the arrival of a request
frame, or one of the rows that choose nothing (`LinkStep`). -/

/-- What the event of a command does before the arbiter's choice. -/
inductive LinkEvent (s : State) : State → Prop
  /-- an event of another block -/
  | block {t : State} (h : t.link = s.link) : LinkEvent s t
  | reset (cause : ResetCause) : LinkEvent s (s.afterReset cause)
  | character (b : Byte) : LinkEvent s ((s.modLink fun l => { l.rxdHigh with rxChar := none }).receiveByte b)
  /-- the end of the frame on TXD, with its tied effect, or of an aborted one -/
  | frameEnd (tied : Tied) : LinkEvent s ((s.modLink fun l => { l with tx := .idle }).applyTied tied)
  | tick : LinkEvent s s.tickMillisecond
  | expiry (m : MsTimer) : LinkEvent s (s.takeExpiry m)

/-- What a command can lead to. -/
inductive LinkStep (s : State) : State → Prop
  | settles {t : State} (h : LinkEvent s t) : LinkStep s t.settle
  | request (f : Frame) : LinkStep s ((s.modLink Link.afterFrame).deliver f)
  | still : LinkStep s s
  | hold : LinkStep s s.heldInReset
  | fault : LinkStep s (s.modLink fun l => { l.countFraming.discardFrame with rxChar := none, rxd := false })
  | rise : LinkStep s (s.modLink Link.rxdHigh)
  | fall (r : Option RxChar) : LinkStep s (s.modLink fun l => { l with rxd := false, rxChar := r })

theorem LinkStep.event {s t : State} {f : State → State} (h : LinkEvent s (f s)) (ht : s.event f = .next t) :
    LinkStep s t := by
  cases ht
  split
  · exact .still
  · exact .settles h

theorem receiveRequest_linkStep (type seq : Byte) (payload : List Byte) (s : State) :
    LinkStep s (receiveRequest type seq payload s) := by
  unfold receiveRequest
  split
  · exact .still
  · exact .request _

theorem execTransmitCompletion_linkStep {s t : State} (ht : execTransmitCompletion s = .next t) : LinkStep s t := by
  unfold execTransmitCompletion at ht
  split at ht
  · cases ht
    refine .settles ?_
    split
    · exact .frameEnd _
    · exact .frameEnd .none
  · cases ht; exact .still
  · cases ht; exact .still

theorem execAbortedFrameEnd_linkStep {s t : State} (ht : execAbortedFrameEnd s = .next t) : LinkStep s t := by
  unfold execAbortedFrameEnd at ht
  split at ht <;> cases ht
  · exact .settles (.frameEnd .none)
  · exact .still
  · exact .still

theorem execPairRiseDelayExpiry_linkStep {k : Fin 8} {s t : State} (ht : execPairRiseDelayExpiry k s = .next t) :
    LinkStep s t := by
  refine .event (.block ?_) ht
  split
  · rfl
  · split <;> rfl

theorem execInputSample_linkStep {lines : InputLines} {s t : State} (ht : execInputSample lines s = .next t) :
    LinkStep s t := by
  refine .event (.block ?_) ht
  have hunits : (State.mapUnits (fun u unit => unit.sample lines.tach[u])
      { s with inputs := lines, samplePhase := 0 }).link = s.link := rfl
  exact (sampleFaults_background lines.flt _).link.trans hunits

theorem exec_linkStep (c : Instr) {s t : State} (ht : exec c s = .next t) : LinkStep s t := by
  have request (type seq : Byte) (payload : List Byte) (hr : Host.Outcome.next (receiveRequest type seq payload s) =
      (.next t : Host.Outcome State Fault Refusal)) : LinkStep s t :=
    Host.Outcome.next.inj hr ▸ receiveRequest_linkStep type seq payload s
  cases c with
  | powerOnReset => cases ht; exact .settles (.reset _)
  | rstNAssert => cases ht; exact .hold
  | pinReset => cases ht; exact .settles (.reset _)
  | millisecondTick => exact .event .tick ht
  | timebaseTick b =>
    refine .event (.block ?_) ht
    split
    · exact (tickTimebase_background b s).link
    · rfl
  | boundary b =>
    refine .event (.block ?_) ht
    split
    · exact (boundary_background false b s).link
    · rfl
  | pairRiseDelayExpiry k => exact execPairRiseDelayExpiry_linkStep ht
  | inputSample lines => exact execInputSample_linkStep ht
  | gatheringTimerExpiry p => exact .event (.expiry _) ht
  | speedWindowExpiry u => exact .event (.expiry _) ht
  | hostSilenceExpiry => exact .event (.expiry _) ht
  | interByteTimeout => exact .event (.expiry _) ht
  | linkBreak => exact .event (.expiry _) ht
  | characterReceived b =>
    cases ht
    split
    · exact .still
    · exact .settles (.character b)
  | characterFault =>
    cases ht
    split
    · exact .still
    · exact .fault
  | transmitCompletion => exact execTransmitCompletion_linkStep ht
  | abortedFrameEnd => exact execAbortedFrameEnd_linkStep ht
  | rxdRisingEdge => cases ht; exact .rise
  | rxdFallingEdge => cases ht; exact .fall _
  | _ => exact request _ _ _ ht

/-- What every command and every reference period keeps of the link and the report queue, every step keeps. -/
theorem step_link_induction {P : State → Prop}
    (congr : ∀ {s t : State}, P s → t.link = s.link → t.reports = s.reports → P t)
    (period : ∀ {s : State}, P s → P s.arbitrate.clockPeriod)
    (command : ∀ {s t : State}, P s → LinkStep s t → P t) {s t : State} (h : P s) (ht : step s = .next t) : P t := by
  unfold step at ht
  split at ht
  · next c rest _ =>
    have hrest : P { s with pending := rest } := congr h rfl rfl
    exact command hrest (exec_linkStep c ht)
  · refine State.idleStep_induction P s t ht h (period h) fun c _ n u hu => ?_
    have hdrawn : P { s with choice := n } := congr h rfl rfl
    exact command hdrawn (exec_linkStep c hu)

/-! # O58: nothing is left eligible

The second half of `Settled` alone is what the end of an event needs (`State.settle_settled`): a choice of the arbiter
takes one response from the holding queue, and the handler fills the room it leaves. -/

/-- A frame waits in the inbound buffer only for room in the holding queue (R137). -/
def State.WaitsForRoom (s : State) : Prop := s.link.inbound = [] ∨ Config.holdingSize ≤ s.link.holding.length

theorem State.canTake_eq_false_iff (s : State) : s.canTake = false ↔ s.WaitsForRoom := by
  simp only [State.canTake, State.WaitsForRoom, Bool.and_eq_false_iff, Bool.not_eq_false', List.isEmpty_iff,
    decide_eq_false_iff_not, Nat.not_lt]

theorem State.WaitsForRoom.congr {s t : State} (h : s.WaitsForRoom) (hi : t.link.inbound = s.link.inbound)
    (hh : t.link.holding = s.link.holding) : t.WaitsForRoom := by
  rwa [State.WaitsForRoom, hi, hh]

/-- Where no record is chosen, every record is sent. -/
theorem any_unsent_of_sendOldest_eq_none {rs : List Record} (h : sendOldest rs = none) :
    rs.any (fun r => !r.sent) = false := by
  induction rs with
  | nil => rfl
  | cons r rest ih =>
    cases hr : r.sent with
    | false => simp [sendOldest, hr] at h
    | true =>
      simp only [sendOldest, hr, if_true, Option.map_eq_none_iff] at h
      simp [hr, ih h]

/-- The arbiter's choice of a report puts its frame on TXD, or finds none eligible and changes nothing. -/
theorem State.sendReport_cases (s : State) :
    s.sendReport.link.tx ≠ .idle ∨ (s.sendReport = s ∧ s.reportEligible = false) := by
  unfold State.sendReport
  split
  · split
    · next hnone => exact .inr ⟨rfl, by simp [State.reportEligible, any_unsent_of_sendOldest_eq_none hnone]⟩
    · exact .inl nofun
  · next hw => exact .inr ⟨rfl, by simp [State.reportEligible, hw]⟩

theorem State.arbitrate_of_response {s : State} {r : Response} {rest : List Response} (hi : s.link.tx = .idle)
    (hh : s.link.holding = r :: rest) : s.arbitrate = s.modLink fun l => l.sendResponse r rest := by
  rw [State.arbitrate, hi, hh]

theorem State.arbitrate_of_none_held {s : State} (hi : s.link.tx = .idle) (hh : s.link.holding = []) :
    s.arbitrate = s.sendReport := by
  rw [State.arbitrate, hi, hh]

/-- After the arbiter's choice an IDLE transmitter finds no frame eligible. -/
theorem State.arbitrate_leaves_nothing (s : State) (h : s.arbitrate.link.tx = .idle) :
    s.arbitrate.link.holding = [] ∧ s.arbitrate.reportEligible = false := by
  by_cases hi : s.link.tx = .idle
  · cases hh : s.link.holding with
    | nil =>
      rw [State.arbitrate_of_none_held hi hh] at h ⊢
      obtain hsent | ⟨heq, hnone⟩ := s.sendReport_cases
      · exact absurd h hsent
      · rw [heq]
        exact ⟨hh, hnone⟩
    | cons r rest =>
      rw [State.arbitrate_of_response hi hh] at h
      cases h
  · rw [s.arbitrate_of_busy hi] at h
    exact absurd h hi

theorem State.settled_of_busy {s : State} (hbusy : s.link.tx ≠ .idle) (hw : s.WaitsForRoom) : s.Settled :=
  ⟨fun hi => absurd hi hbusy, hw⟩

theorem State.settleFor_of_settled {s : State} (hs : s.Settled) (n : Nat) : State.settleFor n s = s := by
  cases n with
  | zero => exact s.arbitrate_of_settled hs
  | succ n =>
    rw [State.settleFor, s.arbitrate_of_settled hs, s.canTake_of_settled hs]
    rfl

theorem State.handle_hold (f : Frame) (s : State) : (s.handle f).link.inbound = s.link.inbound ∧
    ((s.handle f).link.tx = .idle ↔ s.link.tx = .idle) ∧
    (s.handle f).link.holding.length = s.link.holding.length + 1 := by
  unfold State.handle
  split
  · simp [State.hold]
  · obtain ⟨hin, htx, hlen⟩ := perform_keepsFrames f s
    exact ⟨hin, htx.symm, by simp [State.hold, hlen]⟩

theorem State.takeRequest_of_cons {s : State} {f : Frame} {rest : List Frame} (h : s.link.inbound = f :: rest) :
    s.takeRequest = (s.modLink fun l => { l with inbound := rest }).handle f := by
  rw [State.takeRequest, h]

/-- The frames after a request is taken: one less waits, one more response is held. -/
theorem State.takeRequest_frames {s : State} {f : Frame} {rest : List Frame} (h : s.link.inbound = f :: rest) :
    s.takeRequest.link.inbound = rest ∧ (s.takeRequest.link.tx = .idle ↔ s.link.tx = .idle) ∧
      s.takeRequest.link.holding.length = s.link.holding.length + 1 := by
  rw [State.takeRequest_of_cons h]
  exact State.handle_hold f _

theorem State.arbitrate_inbound (s : State) : s.arbitrate.link.inbound = s.link.inbound := by
  unfold State.arbitrate State.sendReport
  split
  · split
    · rfl
    · split
      · split <;> rfl
      · rfl
  · rfl

/-- The end of an event leaves a settled part: with the holding queue full, one response leaves it and one waiting frame
is taken. -/
theorem State.settle_settled {s : State} (h : s.WaitsForRoom) : s.settle.Settled := by
  by_cases hbusy : s.link.tx ≠ .idle
  · have hs := State.settled_of_busy hbusy h
    rwa [State.settle_of_settled s hs]
  have hidle := not_not.mp hbusy
  rcases h with hin | hfull
  · rw [s.settle_of_inbound_nil hin]
    exact ⟨s.arbitrate_leaves_nothing, .inl (s.arbitrate_inbound.trans hin)⟩
  · obtain ⟨r, r', rest, hheld⟩ : ∃ r r' rest, s.link.holding = r :: r' :: rest := by
      match hh : s.link.holding with
      | [] => simp [hh, Config.holdingSize] at hfull
      | [_] => simp [hh, Config.holdingSize] at hfull
      | r :: r' :: rest => exact ⟨r, r', rest, rfl⟩
    have hchosen := State.arbitrate_of_response hidle hheld
    have hsent : s.arbitrate.link.tx ≠ .idle := by
      rw [hchosen]
      nofun
    have hleft : s.arbitrate.link.holding = r' :: rest := by
      rw [hchosen]
      rfl
    have hsettle : s.settle = if s.arbitrate.canTake then State.settleFor 1 s.arbitrate.takeRequest
        else s.arbitrate := rfl
    rw [hsettle]
    cases htake : s.arbitrate.canTake with
    | false => exact State.settled_of_busy hsent (s.arbitrate.canTake_eq_false_iff.mp htake)
    | true =>
      obtain ⟨f, waiting, hwait⟩ : ∃ f waiting, s.arbitrate.link.inbound = f :: waiting :=
        List.exists_cons_of_ne_nil fun hnil => by simp [State.canTake, hnil] at htake
      obtain ⟨-, htx, hlen⟩ := State.takeRequest_frames hwait
      have hs : s.arbitrate.takeRequest.Settled :=
        State.settled_of_busy (hsent ∘ htx.mp) (.inr (by rw [hlen, hleft, Config.holdingSize]; simp))
      rwa [if_pos rfl, State.settleFor_of_settled hs]

/-! ## The arrival of a frame -/

/-- What the arrival of a CRC-valid frame is at a settled part, where no report is left to choose before it. -/
theorem State.deliver_of_settled {s : State} (hs : s.Settled) (f : Frame) : s.deliver f =
    (let u := s.hearHost.modLink fun l => l.offerFrame f
     if u.canTake then u.takeRequest else u).settle := by
  rw [State.deliver, s.arbitrate_of_settled hs]

theorem Link.offerFrame_of_room {l : Link} (h : l.inbound.length < 2) (f : Frame) :
    l.offerFrame f = { l with inbound := l.inbound ++ [f] } := if_pos h

theorem Link.offerFrame_of_full {l : Link} (h : 2 ≤ l.inbound.length) (f : Frame) :
    l.offerFrame f = { l with droppedFrames := min 255 (l.droppedFrames + 1), droppedMark := true } :=
  if_neg (Nat.not_lt.mpr h)

theorem Link.offerFrame_holding (l : Link) (f : Frame) : (l.offerFrame f).holding = l.holding := by
  unfold Link.offerFrame
  split <;> rfl

theorem Link.offerFrame_tx (l : Link) (f : Frame) : (l.offerFrame f).tx = l.tx := by
  unfold Link.offerFrame
  split <;> rfl

/-- A frame that arrives at a settled part and is taken leaves no other frame waiting. -/
theorem State.deliver_settled {s : State} (hs : s.Settled) (f : Frame) : (s.deliver f).Settled := by
  rw [State.deliver_of_settled hs]
  refine State.settle_settled ?_
  dsimp only
  cases htake : State.canTake (s.hearHost.modLink fun l => l.offerFrame f) with
  | false => exact (State.canTake_eq_false_iff _).mp htake
  | true =>
    have hroom : ¬Config.holdingSize ≤ s.link.holding.length := fun hfull => by
      have hwaits : State.WaitsForRoom (s.hearHost.modLink fun l => l.offerFrame f) :=
        .inr (hfull.trans_eq (congrArg List.length (s.hearHost.link.offerFrame_holding f)).symm)
      exact Bool.false_ne_true (((State.canTake_eq_false_iff _).mpr hwaits).symm.trans htake)
    have hnone : s.link.inbound = [] := hs.2.resolve_right hroom
    have hone : (s.hearHost.modLink fun l => l.offerFrame f).link.inbound = [f] := by
      have hempty : s.hearHost.link.inbound = [] := hnone
      rw [State.modLink_link, Link.offerFrame_of_room (by rw [hempty]; decide), hempty]
      rfl
    exact .inl (State.takeRequest_frames hone).1

/-! ## The events -/

theorem State.Settled.modLink {s : State} (hs : s.Settled) {f : Link → Link} (htx : (f s.link).tx = s.link.tx)
    (hh : (f s.link).holding = s.link.holding) (hi : (f s.link).inbound = s.link.inbound) : (s.modLink f).Settled :=
  hs.of_eq htx hh hi rfl

theorem State.receiveByte_settled {s : State} (hs : s.Settled) (b : Byte) : (s.receiveByte b).Settled := by
  unfold State.receiveByte
  split
  · split
    · exact hs.modLink rfl rfl rfl
    · exact hs
  · split <;> exact hs.modLink rfl rfl rfl
  · exact hs.modLink rfl rfl rfl
  · exact hs.modLink rfl rfl rfl
  · unfold State.checkFrame
    dsimp only
    split
    · exact State.deliver_settled (hs.modLink rfl rfl rfl) _
    · exact (hs.modLink rfl rfl rfl).modLink rfl rfl rfl

theorem Link.applyRate_frames (l : Link) : l.applyRate.inbound = l.inbound ∧ l.applyRate.holding = l.holding := by
  unfold Link.applyRate
  split
  · exact ⟨rfl, rfl⟩
  · split <;> exact ⟨rfl, rfl⟩

theorem State.applyTied_waitsForRoom {s : State} (h : s.WaitsForRoom) (tied : Tied) :
    (s.applyTied tied).WaitsForRoom := by
  cases tied with
  | none => exact h
  | rate =>
    obtain ⟨hi, hh⟩ := s.link.applyRate_frames
    exact h.congr hi hh
  | softReset => exact .inl rfl

theorem State.expireSilence_link (s : State) : s.expireSilence.link = { s.link with silenceTimer := none } :=
  (activateFault_background silence _).link

theorem State.expire_waitsForRoom {s : State} (h : s.WaitsForRoom) (m : MsTimer) : (s.expire m).WaitsForRoom := by
  have block {t : State} (hlink : t.link = s.link) : t.WaitsForRoom :=
    h.congr (congrArg Link.inbound hlink) (congrArg Link.holding hlink)
  cases m with
  | gather p => exact block (expireGathering_background p s).link
  | window u => exact block (expireWindow_background u s).link
  | silence =>
    show s.expireSilence.WaitsForRoom
    rw [State.WaitsForRoom, s.expireSilence_link]
    exact h
  | interByte => exact h.congr rfl rfl
  | breakDetector => exact .inl rfl

theorem State.takeExpiry_waitsForRoom {s : State} (h : s.WaitsForRoom) (m : MsTimer) :
    (s.takeExpiry m).WaitsForRoom := by
  unfold State.takeExpiry
  dsimp only
  split
  · exact (State.expire_waitsForRoom h m).congr rfl rfl
  · exact h

theorem State.tickMillisecond_settled {s : State} (hs : s.Settled) : s.tickMillisecond.Settled := by
  have hadvanced : s.advanceTimers.Settled := hs.of_eq rfl rfl rfl rfl
  have hall : (forEachInAnyOrder s.dueTimers State.expireIfDue s.advanceTimers).Settled := by
    refine forEachInAnyOrder_induction State.Settled _ _ (fun _ _ hu => hu.of_eq rfl rfl rfl rfl) (fun m _ u hu => ?_) _
      hadvanced
    unfold State.expireIfDue
    split
    · exact State.settle_settled (State.expire_waitsForRoom hu.2 m)
    · exact hu
  exact hall.of_eq rfl rfl rfl rfl

/-- Before the choice that ends an event, a frame waits only for room. -/
theorem LinkEvent.waitsForRoom {s t : State} (hs : s.Settled) (h : LinkEvent s t) : t.WaitsForRoom := by
  cases h with
  | block hlink => exact State.WaitsForRoom.congr hs.2 (congrArg Link.inbound hlink) (congrArg Link.holding hlink)
  | reset cause => exact .inl rfl
  | character b => exact (State.receiveByte_settled (hs.modLink rfl rfl rfl) b).2
  | frameEnd tied =>
    have hidle : (s.modLink fun l => { l with tx := .idle }).WaitsForRoom := hs.2
    exact State.applyTied_waitsForRoom hidle tied
  | tick => exact (State.tickMillisecond_settled hs).2
  | expiry m => exact State.takeExpiry_waitsForRoom hs.2 m

theorem State.heldInReset_settled (s : State) : s.heldInReset.Settled := ⟨fun _ => ⟨rfl, rfl⟩, .inl rfl⟩

theorem LinkStep.settled {s t : State} (hs : s.Settled) (h : LinkStep s t) : t.Settled := by
  cases h with
  | settles hevent => exact State.settle_settled (hevent.waitsForRoom hs)
  | request f => exact State.deliver_settled (hs.modLink rfl rfl rfl) f
  | still => exact hs
  | hold => exact s.heldInReset_settled
  | fault => exact hs.modLink rfl rfl rfl
  | rise => exact hs.modLink rfl rfl rfl
  | fall r => exact hs.modLink rfl rfl rfl

theorem State.clockPeriod_settled {s : State} (hs : s.Settled) : s.clockPeriod.Settled := by
  have htx : s.link.tx.clock = .idle ↔ s.link.tx = .idle := by
    cases s.link.tx <;> simp [Transmitter.clock]
  exact ⟨fun hi => hs.1 (htx.mp hi), hs.2⟩

/-- Settles O58: every event ends with the arbiter's choice, which leaves a settled part (`State.settle_settled`). -/
theorem stepLeavesNothingEligible : Obligations.StepLeavesNothingEligible := fun _ _ hs ht =>
  step_link_induction (P := State.Settled) (fun h hlink hreports =>
      h.of_eq (congrArg Link.tx hlink) (congrArg Link.holding hlink) (congrArg Link.inbound hlink) hreports)
    (fun {s} h => by
      rw [s.arbitrate_of_settled h]
      exact State.clockPeriod_settled h)
    (fun h hstep => hstep.settled h) hs ht

end Sys2Proof.Machine

namespace Sys2Proof.Machine

/-! # O57: the ranges of the link

What each operation on the link keeps, field by field; of the requests, only GET_STATUS and SET_LINK touch the link. -/

/-- `Link.Inv` with its parts named. -/
structure Link.Sound (l : Link) : Prop where
  inbound : l.inbound.length ≤ 2
  holding : l.holding.length ≤ 2
  crcErrors : l.crcErrors ≤ 255
  framingErrors : l.framingErrors ≤ 255
  timeouts : l.timeouts ≤ 255
  droppedFrames : l.droppedFrames ≤ 255
  breakCount : l.breakCount ≤ 20
  receiver : l.receiver.Inv
  running : l.interByte = none ↔ l.receiver = .hunt
  interByte : ∀ n ∈ l.interByte, n < 5
  limit : l.silenceLimit = 0 ∨ (10 ≤ l.silenceLimit ∧ l.silenceLimit ≤ 10000)
  silence : ∀ n ∈ l.silenceTimer, n < l.silenceLimit

theorem Link.sound_iff (l : Link) : l.Sound ↔ l.Inv :=
  ⟨fun ⟨h1, h2, h3, h4, h5, h6, h7, h8, h9, h10, h11, h12⟩ => ⟨h1, h2, h3, h4, h5, h6, h7, h8, h9, h10, h11, h12⟩,
    fun ⟨h1, h2, h3, h4, h5, h6, h7, h8, h9, h10, h11, h12⟩ => ⟨h1, h2, h3, h4, h5, h6, h7, h8, h9, h10, h11, h12⟩⟩

theorem countUp_le (n : Nat) : countUp n ≤ 255 := Nat.min_le_left _ _

/-- A timer that starts again counts from 0, below any limit that lets it run. -/
theorem restarted_lt (limit : Nat) : ∀ n ∈ (if limit = 0 then none else some 0 : Option Nat), n < limit := by
  intro n hn
  split at hn
  · cases hn
  · cases hn
    omega

namespace Link.Sound

variable {l : Link}

/-! ## The receiver and the line -/

theorem discardFrame (h : l.Sound) : l.discardFrame.Sound :=
  { h with receiver := trivial, running := ⟨fun _ => rfl, fun _ => rfl⟩, interByte := nofun }

theorem receiveTo (h : l.Sound) {r : Receiver} (hr : r.Inv) (hne : r ≠ .hunt) : (l.receiveTo r).Sound :=
  { h with
    receiver := hr
    running := ⟨nofun, fun he => absurd he hne⟩
    interByte := by rintro n ⟨⟩; decide }

theorem countFraming (h : l.Sound) : l.countFraming.Sound := { h with framingErrors := countUp_le _ }

theorem countCrc (h : l.Sound) : ({ l with crcErrors := countUp l.crcErrors } : Link).Sound :=
  { h with crcErrors := countUp_le _ }

theorem interByteExpires (h : l.Sound) : l.interByteExpires.Sound :=
  { h.discardFrame with timeouts := countUp_le _ }

theorem rxdHigh (h : l.Sound) : l.rxdHigh.Sound :=
  { h with
    breakCount := by
      have := h.breakCount
      unfold Link.rxdHigh
      dsimp only
      split <;> omega }

/-! ## Frames and rates -/

theorem send (h : l.Sound) (kind : FrameKind) (body : List Byte) : (l.send kind body).Sound := { h with }

theorem sendResponse (h : l.Sound) {r : Response} {rest : List Response} (hh : l.holding = r :: rest) :
    (l.sendResponse r rest).Sound := by
  have hlen := h.holding
  rw [hh, List.length_cons] at hlen
  exact { h with holding := Nat.le_of_succ_le hlen }

theorem offerFrame (h : l.Sound) (f : Frame) : (l.offerFrame f).Sound := by
  unfold Link.offerFrame
  split
  · next hroom =>
    have hlen : (l.inbound ++ [f]).length ≤ 2 := by
      rw [List.length_append]
      exact hroom
    exact { h with inbound := hlen }
  · exact { h with droppedFrames := countUp_le _ }

theorem hold (h : l.Sound) (hroom : l.holding.length < 2) (r : Response) :
    ({ l with holding := l.holding ++ [r] } : Link).Sound := by
  have hlen : (l.holding ++ [r]).length ≤ 2 := by
    rw [List.length_append]
    exact hroom
  exact { h with holding := hlen }

theorem applyRate (h : l.Sound) : l.applyRate.Sound := by
  unfold Link.applyRate
  split
  · exact h
  · split
    · exact { h with }
    · exact { h.discardFrame with }

theorem breaks (h : l.Sound) : l.break.Sound :=
  { h.discardFrame with inbound := Nat.zero_le _, holding := Nat.zero_le _ }

theorem reset (rxd : Bool) : ({ Link.reset with rxd := rxd } : Link).Sound := by
  rw [Link.sound_iff]
  simp [Link.Inv, Receiver.Inv, Link.reset]

/-! ## The silence timer and the requests -/

theorem restartSilence (h : l.Sound) :
    ({ l with silenceTimer := if l.silenceLimit = 0 then none else some 0 } : Link).Sound :=
  { h with silence := restarted_lt _ }

theorem setSilenceLimit (h : l.Sound) {n : Nat} (hn : n = 0 ∨ (10 ≤ n ∧ n ≤ 10000)) : (l.setSilenceLimit n).Sound :=
  { h with limit := hn, silence := restarted_lt n }

theorem setPendingRate (h : l.Sound) (r : Rate) : (l.setPendingRate r).Sound :=
  { h with holding := (List.length_map _).trans_le h.holding }

theorem clearCounters (h : l.Sound) : l.clearCounters.Sound :=
  { h with
    crcErrors := Nat.zero_le _, framingErrors := Nat.zero_le _, timeouts := Nat.zero_le _
    droppedFrames := Nat.zero_le _ }

end Link.Sound

/-! ## What a request does to the link -/

/-- The change of a SET_LINK as it reaches the link (R132, R133, R145). -/
def Link.change (rate : Option Rate) (limit : Option Nat) (l : Link) : Link :=
  let timed := match limit with
    | some n => l.setSilenceLimit n
    | none => l
  match rate with
  | some r => timed.setPendingRate r
  | none => timed

theorem State.changeLink_link (rate : Option Rate) (window limit : Option Nat) (s : State) :
    (s.changeLink rate window limit).link = s.link.change rate limit := by
  cases rate <;> cases window <;> cases limit <;> rfl

/-- What a request makes of the link: nothing, the counters cleared (R127), or the change of a SET_LINK. -/
inductive LinkEffect (l : Link) : Link → Prop
  | same : LinkEffect l l
  | clear : LinkEffect l l.clearCounters
  | change (rate : Option Rate) (limit : Option Nat) (range : ∀ n ∈ limit, n = 0 ∨ (10 ≤ n ∧ n ≤ 10000)) :
      LinkEffect l (l.change rate limit)

namespace LinkEffect

variable {s : State}

theorem of_background {t : State} (h : SameBackground s t) : LinkEffect s.link t.link := h.link ▸ .same

theorem accept {t : State} (st : Status) (payload : List Byte) (h : SameBackground s t) :
    LinkEffect s.link (accept st payload t).2.link := of_background h

theorem checked (tests : List (Bool × Status)) (e : Reply × State) (h : LinkEffect s.link e.2.link) :
    LinkEffect s.link (checked tests s e).2.link := by
  rcases checked_cases tests s e with ⟨st, hr⟩ | hr
  · rw [hr]; exact .same
  · rw [hr]; exact h

theorem forSet {p : List Byte} {bad : Channel → Bool} {effect : ChSet → Reply × State}
    (h : ∀ set, LinkEffect s.link (effect set).2.link) : LinkEffect s.link (forSet p s bad effect).2.link := by
  unfold Machine.forSet
  split
  · exact .same
  · exact checked _ _ (h _)

end LinkEffect

theorem silenceLimit?_some {v n : Nat} (h : silenceLimit? v = some n) : n = 0 ∨ (10 ≤ n ∧ n ≤ 10000) := by
  unfold silenceLimit? at h
  split at h
  · cases h; exact .inl rfl
  · exact .inr (within?_some h)

theorem change?_some {α : Type} {mark value : Nat} {f : Nat → Option α} {x : α}
    (h : change? mark value f = some (some x)) : f value = some x := by
  unfold change? at h
  split at h
  · cases h
  · split at h <;> cases h
  · obtain ⟨y, hy, ⟨⟩⟩ := Option.map_eq_some_iff.mp h
    exact hy

theorem takeGetStatus_linkEffect (p : List Byte) (s : State) : LinkEffect s.link (takeGetStatus p s).2.link := by
  unfold takeGetStatus
  split
  · exact .same
  · split
    · exact .same
    · unfold Machine.accept
      dsimp only
      split
      · exact .clear
      · exact .same

theorem takeSetLink_linkEffect (p : List Byte) (s : State) : LinkEffect s.link (takeSetLink p s).2.link := by
  unfold takeSetLink
  split
  · exact .same
  · split
    · next rate window limit _ _ hlimit =>
      split
      · exact .same
      · dsimp only
        rw [State.changeLink_link]
        refine .change rate limit fun n hn => ?_
        cases hn
        exact silenceLimit?_some (change?_some hlimit)
    · exact .same

/-! ## The requests that leave the link alone -/

theorem takeGetInfo_linkEffect (p : List Byte) (s : State) : LinkEffect s.link (takeGetInfo p s).2.link := by
  unfold takeGetInfo
  split <;> exact .same

theorem takeResetDevice_linkEffect (p : List Byte) (s : State) : LinkEffect s.link (takeResetDevice p s).2.link := by
  unfold takeResetDevice
  split <;> exact .same

theorem takeOutQuery_linkEffect (p : List Byte) (s : State) : LinkEffect s.link (takeOutQuery p s).2.link := by
  unfold takeOutQuery
  split <;> exact .same

theorem takeRptResend_linkEffect (p : List Byte) (s : State) : LinkEffect s.link (takeRptResend p s).2.link := by
  unfold takeRptResend
  split <;> exact .same

theorem takeTbQuery_linkEffect (p : List Byte) (s : State) : LinkEffect s.link (takeTbQuery p s).2.link := by
  unfold takeTbQuery
  split
  · exact .same
  · split <;> exact .same

theorem takeChQuery_linkEffect (p : List Byte) (s : State) : LinkEffect s.link (takeChQuery p s).2.link := by
  unfold takeChQuery
  split
  · exact .same
  · split <;> exact .same

theorem takeRpQuery_linkEffect (p : List Byte) (s : State) : LinkEffect s.link (takeRpQuery p s).2.link := by
  unfold takeRpQuery
  split
  · exact .same
  · split <;> exact .same

theorem takeFaultQuery_linkEffect (p : List Byte) (s : State) : LinkEffect s.link (takeFaultQuery p s).2.link := by
  unfold takeFaultQuery
  split
  · exact .same
  · split <;> exact .same

theorem takeSmQuery_linkEffect (p : List Byte) (s : State) : LinkEffect s.link (takeSmQuery p s).2.link := by
  unfold takeSmQuery
  split
  · exact .same
  · split <;> exact .same

theorem takeRouteSet_linkEffect (p : List Byte) (s : State) : LinkEffect s.link (takeRouteSet p s).2.link := by
  unfold takeRouteSet
  split
  · exact .same
  · split <;> exact .same

theorem takePinConfig_linkEffect (p : List Byte) (s : State) : LinkEffect s.link (takePinConfig p s).2.link := by
  unfold takePinConfig
  split
  · exact .same
  · split <;> exact .same

theorem takeRptAck_linkEffect (p : List Byte) (s : State) : LinkEffect s.link (takeRptAck p s).2.link := by
  unfold takeRptAck
  split
  · exact .same
  · split <;> exact .same

theorem takeTbConfig_linkEffect (p : List Byte) (s : State) : LinkEffect s.link (takeTbConfig p s).2.link := by
  unfold takeTbConfig
  split
  · exact .same
  · split
    · split
      · exact .same
      · exact .accept _ _ ((dropPendingPeriod_background _ s).trans (modTb_background _ _ _))
    · exact .same

theorem takeTbStart_linkEffect (p : List Byte) (s : State) : LinkEffect s.link (takeTbStart p s).2.link := by
  unfold takeTbStart
  split
  · exact .same
  · split
    · exact .same
    · split
      · exact .same
      · exact .accept _ _ (startTbs_background _ s)

theorem takeTbStop_linkEffect (p : List Byte) (s : State) : LinkEffect s.link (takeTbStop p s).2.link := by
  unfold takeTbStop
  split
  · exact .same
  · split
    · exact .same
    · exact .accept _ _ ((mapTbs_background _ s).trans (haltPairs_background _ _))

theorem takeTbPeriod_linkEffect (seq : Byte) (p : List Byte) (s : State) :
    LinkEffect s.link (takeTbPeriod seq p s).2.link := by
  have hset (b : Fin 4) (f : Timebase → Timebase) : SameBackground s ((s.dropPendingPeriod b).modTb b f) :=
    (dropPendingPeriod_background b s).trans (modTb_background b f _)
  unfold takeTbPeriod
  split
  · exact .same
  · split
    · split
      · exact .accept _ _ (hset _ _)
      · exact .accept _ _ (hset _ _)
      · split
        · exact .accept _ _ (hset _ _)
        · exact .accept _ _ ((hset _ _).trans (offer_background _ _))
    · exact .same

theorem takeChQuota_linkEffect (p : List Byte) (s : State) : LinkEffect s.link (takeChQuota p s).2.link := by
  unfold takeChQuota
  split
  · exact .same
  · dsimp only
    exact .checked _ _ (.accept _ _ (mapChans_background _ s))

theorem takeSegAppend_linkEffect (p : List Byte) (s : State) : LinkEffect s.link (takeSegAppend p s).2.link := by
  unfold takeSegAppend
  split
  · exact .same
  · split
    · exact .checked _ _ .same
    · exact .same

theorem takeSegReplace_linkEffect (seq : Byte) (p : List Byte) (s : State) :
    LinkEffect s.link (takeSegReplace seq p s).2.link := by
  unfold takeSegReplace
  split
  · exact .same
  · split
    · exact .checked _ _ (.accept _ _
        ((supersedeReplacement_background _ s).trans (takeToReplacement_background _ _ _ _)))
    · exact .same

theorem takeChConfig_linkEffect (p : List Byte) (s : State) : LinkEffect s.link (takeChConfig p s).2.link := by
  unfold takeChConfig
  split
  · exact .same
  · split
    · exact .checked _ _ (.accept _ _ ((mapChans_background _ s).trans (rebindPair_background _ _ s)))
    · exact .same

theorem takeChLevel_linkEffect (seq : Byte) (p : List Byte) (s : State) :
    LinkEffect s.link (takeChLevel seq p s).2.link := by
  unfold takeChLevel
  split
  · exact .same
  · split
    · exact .checked _ _ (.accept _ _ ((modChan_background _ _ s).trans (offerIf_background _ _ _)))
    · exact .same

theorem takeChStart_linkEffect (p : List Byte) (s : State) : LinkEffect s.link (takeChStart p s).2.link :=
  .forSet fun _ => .accept _ _ (mapChans_background _ s)

theorem takeChPause_linkEffect (p : List Byte) (s : State) : LinkEffect s.link (takeChPause p s).2.link :=
  .forSet fun _ => .accept _ _ (mapChans_background _ s)

theorem takeChResume_linkEffect (p : List Byte) (s : State) : LinkEffect s.link (takeChResume p s).2.link :=
  .forSet fun _ => .accept _ _ (mapChans_background _ s)

theorem takeChFlush_linkEffect (p : List Byte) (s : State) : LinkEffect s.link (takeChFlush p s).2.link :=
  .forSet fun _ => .accept _ _ (forEachInAnyOrder_background _ _ flushChannel_background s)

theorem takeRpDefine_linkEffect (p : List Byte) (s : State) : LinkEffect s.link (takeRpDefine p s).2.link := by
  unfold takeRpDefine
  split
  · exact .same
  · split
    · split <;> exact .same
    · exact .same

theorem takePairConfig_linkEffect (p : List Byte) (s : State) : LinkEffect s.link (takePairConfig p s).2.link := by
  unfold takePairConfig
  split
  · exact .same
  · split
    · split
      · exact .same
      · exact .accept _ _ (configPair_background _ _ _ s)
    · exact .same

theorem takeFaultConfig_linkEffect (p : List Byte) (s : State) : LinkEffect s.link (takeFaultConfig p s).2.link := by
  unfold takeFaultConfig
  split
  · exact .same
  · split
    · split
      · split <;> exact .same
      · exact .same
    · exact .same

theorem takeFaultClear_linkEffect (p : List Byte) (s : State) : LinkEffect s.link (takeFaultClear p s).2.link := by
  unfold takeFaultClear
  split
  · exact .same
  · split
    · exact .same
    · split
      · exact .same
      · split
        · exact .accept _ _ (clearFault_background _ s)
        · exact .same

theorem takeSmConfig_linkEffect (p : List Byte) (s : State) : LinkEffect s.link (takeSmConfig p s).2.link := by
  unfold takeSmConfig
  split
  · exact .same
  · split
    · exact .accept _ _ ((modUnit_background _ _ s).trans (settleSpeed_background _))
    · exact .same

theorem perform_linkEffect (f : Frame) (s : State) : LinkEffect s.link (perform f s).2.link := by
  unfold perform
  split
  · exact .same
  · next kind _ =>
    cases kind with
    | getInfo => exact takeGetInfo_linkEffect _ s
    | getStatus => exact takeGetStatus_linkEffect _ s
    | setLink => exact takeSetLink_linkEffect _ s
    | resetDevice => exact takeResetDevice_linkEffect _ s
    | tbConfig => exact takeTbConfig_linkEffect _ s
    | tbStart => exact takeTbStart_linkEffect _ s
    | tbStop => exact takeTbStop_linkEffect _ s
    | tbPeriod => exact takeTbPeriod_linkEffect _ _ s
    | tbQuery => exact takeTbQuery_linkEffect _ s
    | chQuota => exact takeChQuota_linkEffect _ s
    | segAppend => exact takeSegAppend_linkEffect _ s
    | segReplace => exact takeSegReplace_linkEffect _ _ s
    | chConfig => exact takeChConfig_linkEffect _ s
    | chLevel => exact takeChLevel_linkEffect _ _ s
    | chStart => exact takeChStart_linkEffect _ s
    | chPause => exact takeChPause_linkEffect _ s
    | chResume => exact takeChResume_linkEffect _ s
    | chFlush => exact takeChFlush_linkEffect _ s
    | chQuery => exact takeChQuery_linkEffect _ s
    | rpDefine => exact takeRpDefine_linkEffect _ s
    | rpQuery => exact takeRpQuery_linkEffect _ s
    | pairConfig => exact takePairConfig_linkEffect _ s
    | routeSet => exact takeRouteSet_linkEffect _ s
    | pinConfig => exact takePinConfig_linkEffect _ s
    | outQuery => exact takeOutQuery_linkEffect _ s
    | faultConfig => exact takeFaultConfig_linkEffect _ s
    | faultClear => exact takeFaultClear_linkEffect _ s
    | faultQuery => exact takeFaultQuery_linkEffect _ s
    | smConfig => exact takeSmConfig_linkEffect _ s
    | smQuery => exact takeSmQuery_linkEffect _ s
    | rptAck => exact takeRptAck_linkEffect _ s
    | rptResend => exact takeRptResend_linkEffect _ s

/-! ## The arbiter, the handler and the arrival of a frame -/

theorem LinkEffect.sound {l l' : Link} (h : l.Sound) (he : LinkEffect l l') : l'.Sound := by
  cases he with
  | same => exact h
  | clear => exact h.clearCounters
  | change rate limit range =>
    have htimed (n : Nat) (hn : limit = some n) : (l.setSilenceLimit n).Sound := h.setSilenceLimit (range n hn)
    cases limit with
    | none =>
      cases rate with
      | none => exact h
      | some r => exact h.setPendingRate r
    | some n =>
      cases rate with
      | none => exact htimed n rfl
      | some r => exact (htimed n rfl).setPendingRate r

theorem State.arbitrate_linkSound {s : State} (h : s.link.Sound) : s.arbitrate.link.Sound := by
  unfold State.arbitrate
  split
  · split
    · next hh => exact h.sendResponse hh
    · unfold State.sendReport
      split
      · split
        · exact h
        · exact h.send _ _
      · exact h
  · exact h

theorem State.handle_linkSound {s : State} (h : s.link.Sound) (hroom : s.link.holding.length < 2) (f : Frame) :
    (s.handle f).link.Sound := by
  unfold State.handle
  split
  · exact h.hold hroom _
  · have hlen := (perform_keepsFrames f s).2.2
    exact ((perform_linkEffect f s).sound h).hold (hlen.trans_lt hroom) _

theorem State.takeRequest_linkSound {s : State} (h : s.link.Sound) (htake : s.canTake = true) :
    s.takeRequest.link.Sound := by
  have hroom : s.link.holding.length < 2 := of_decide_eq_true (Bool.and_eq_true_iff.mp htake).2
  unfold State.takeRequest
  split
  · exact h
  · next f rest hin =>
    have hlen := h.inbound
    rw [hin, List.length_cons] at hlen
    have htaken : ({ s.link with inbound := rest } : Link).Sound := { h with inbound := Nat.le_of_succ_le hlen }
    exact State.handle_linkSound (s := s.modLink fun l => { l with inbound := rest }) htaken hroom f

theorem State.settleFor_linkSound (n : Nat) {s : State} (h : s.link.Sound) : (State.settleFor n s).link.Sound := by
  induction n generalizing s with
  | zero => exact State.arbitrate_linkSound h
  | succ n ih =>
    unfold State.settleFor
    dsimp only
    split
    · next htake => exact ih (State.takeRequest_linkSound (State.arbitrate_linkSound h) htake)
    · exact State.arbitrate_linkSound h

theorem State.settle_linkSound {s : State} (h : s.link.Sound) : s.settle.link.Sound := State.settleFor_linkSound _ h

theorem State.deliver_linkSound {s : State} (h : s.link.Sound) (f : Frame) : (s.deliver f).link.Sound := by
  have hoffered : (s.arbitrate.hearHost.modLink fun l => l.offerFrame f).link.Sound :=
    (State.arbitrate_linkSound h).restartSilence.offerFrame f
  unfold State.deliver
  dsimp only
  split
  · next htake => exact State.settle_linkSound (State.takeRequest_linkSound hoffered htake)
  · exact State.settle_linkSound hoffered

/-! ## The events -/

theorem State.receiveByte_linkSound {s : State} (h : s.link.Sound) (b : Byte) : (s.receiveByte b).link.Sound := by
  have hinv := h.receiver
  unfold State.receiveByte
  split
  · split
    · exact h.receiveTo trivial nofun
    · exact h
  · split
    · next hlen => exact h.receiveTo ⟨hlen.1, hlen.2, by simp; omega⟩ nofun
    · exact h.countFraming.discardFrame
  · next len bytes hr =>
    rw [hr] at hinv
    obtain ⟨hlo, hhi, hlt⟩ := hinv
    refine h.receiveTo ?_ ?_
    · split
      · next hmore => exact ⟨hlo, hhi, by simpa using hmore⟩
      · exact ⟨hlo, hhi, by simp; omega⟩
    · split <;> nofun
  · next len bytes hr =>
    rw [hr] at hinv
    exact h.receiveTo hinv nofun
  · unfold State.checkFrame
    dsimp only
    split
    · exact State.deliver_linkSound (s := s.modLink Link.discardFrame) h.discardFrame _
    · exact h.discardFrame.countCrc

theorem State.applyTied_linkSound {s : State} (h : s.link.Sound) (tied : Tied) : (s.applyTied tied).link.Sound := by
  cases tied with
  | none => exact h
  | rate => exact h.applyRate
  | softReset => exact Link.Sound.reset _

theorem State.expire_linkSound {s : State} (h : s.link.Sound) (m : MsTimer) : (s.expire m).link.Sound := by
  have block {t : State} (hlink : t.link = s.link) : t.link.Sound := hlink ▸ h
  cases m with
  | gather p => exact block (expireGathering_background p s).link
  | window u => exact block (expireWindow_background u s).link
  | silence =>
    rw [State.expire, s.expireSilence_link]
    exact { h with silence := nofun }
  | interByte => exact h.interByteExpires
  | breakDetector =>
    have hcount : ({ s.link with breakCount := Config.breakLimit } : Link).Sound :=
      { h with breakCount := Nat.le_refl _ }
    exact hcount.breaks

/-- A timer that counts a tick stays below its limit: at the limit the tick would be its expiry. -/
theorem State.counted_lt {s : State} {m : MsTimer} {limit : Nat} {timer : Option Nat}
    (h : ∀ n ∈ timer, n < limit) : ∀ n ∈ s.counted m limit timer, n < limit := by
  intro n hn
  obtain ⟨e, he, rfl⟩ := Option.map_eq_some_iff.mp hn
  have := h e he
  split <;> omega

theorem State.advanceTimers_linkSound {s : State} (h : s.link.Sound) : s.advanceTimers.link.Sound := by
  rw [s.advanceTimers_counts]
  exact { h with
    silence := State.counted_lt h.silence
    interByte := State.counted_lt h.interByte
    running := Option.map_eq_none_iff.trans h.running
    breakCount := by
      have := h.breakCount
      dsimp only
      split <;> omega }

theorem State.tickMillisecond_linkSound {s : State} (h : s.link.Sound) : s.tickMillisecond.link.Sound := by
  refine forEachInAnyOrder_induction (fun u => u.link.Sound) s.dueTimers State.expireIfDue (fun _ _ hu => hu)
    (fun m _ u hu => ?_) s.advanceTimers (State.advanceTimers_linkSound h)
  unfold State.expireIfDue
  split
  · exact State.settle_linkSound (State.expire_linkSound hu m)
  · exact hu

theorem State.takeExpiry_linkSound {s : State} (h : s.link.Sound) (m : MsTimer) : (s.takeExpiry m).link.Sound := by
  unfold State.takeExpiry
  dsimp only
  split
  · exact State.expire_linkSound h m
  · exact h

theorem LinkEvent.linkSound {s t : State} (h : s.link.Sound) (he : LinkEvent s t) : t.link.Sound := by
  cases he with
  | block hlink => exact hlink ▸ h
  | reset cause => exact Link.Sound.reset _
  | character b =>
    have hline : ({ s.link.rxdHigh with rxChar := none } : Link).Sound := { h.rxdHigh with }
    exact State.receiveByte_linkSound (s := s.modLink fun l => { l.rxdHigh with rxChar := none }) hline b
  | frameEnd tied =>
    have hidle : ({ s.link with tx := .idle } : Link).Sound := { h with }
    exact State.applyTied_linkSound (s := s.modLink fun l => { l with tx := .idle }) hidle tied
  | tick => exact State.tickMillisecond_linkSound h
  | expiry m => exact State.takeExpiry_linkSound h m

theorem LinkStep.linkSound {s t : State} (h : s.link.Sound) (hstep : LinkStep s t) : t.link.Sound := by
  cases hstep with
  | settles hevent => exact State.settle_linkSound (hevent.linkSound h)
  | request f => exact State.deliver_linkSound (s := s.modLink Link.afterFrame) h.discardFrame f
  | still => exact h
  | hold => exact Link.Sound.reset _
  | fault => exact { h.countFraming.discardFrame with }
  | rise => exact h.rxdHigh
  | fall r => exact { h with }

theorem State.clockPeriod_linkSound {s : State} (h : s.link.Sound) : s.clockPeriod.link.Sound := { h with }

/-- Settles O57: every operation on the link keeps each field in its range. -/
theorem stepKeepsTheLink : Obligations.StepKeepsTheLink := fun s t h ht =>
  t.link.sound_iff.mp <| step_link_induction (P := fun u => u.link.Sound) (fun hu hlink _ => hlink ▸ hu)
    (fun hu => State.clockPeriod_linkSound (State.arbitrate_linkSound hu)) (fun hu hstep => hstep.linkSound hu)
    (s.link.sound_iff.mpr h) ht

end Sys2Proof.Machine

namespace Sys2Proof.Machine

/-! # O37 and O46: the timers of the link and the link break -/

theorem State.event_takeExpiry_of_due {m : MsTimer} {s : State} (hheld : s.held = false) (hdue : s.due m = true)
    (hfresh : m ∉ s.msDone) :
    s.event (State.takeExpiry m) = .next (State.settle { s.expire m with msDone := m :: s.msDone }) := by
  rw [State.event_of_running hheld, State.takeExpiry_of_due hdue hfresh]

theorem State.event_takeExpiry_of_not_due {m : MsTimer} {s : State} (hheld : s.held = false) (hs : s.Settled)
    (hdue : s.due m = false) : s.event (State.takeExpiry m) = .next s :=
  State.event_of_settled hheld (State.takeExpiry_of_not_due hdue) hs

/-- Settles O37: each row is its timer's expiry, due at the limit, or changes nothing where the timer is stopped. -/
theorem linkTimerExpiries : Obligations.LinkTimerExpiries := by
  refine fun s hheld hs => ⟨fun e htimer hlimit hfresh => ?_, fun e htimer hlimit hfresh => ?_, fun hstopped => ?_,
    fun hstopped => ?_⟩
  · have hdue : s.due .interByte = true := by
      rw [State.due_interByte, htimer]
      exact decide_eq_true hlimit
    have hset : State.Settled { s.expire .interByte with msDone := .interByte :: s.msDone } := hs.of_eq rfl rfl rfl rfl
    refine (State.event_takeExpiry_of_due hheld hdue hfresh).trans ?_
    rw [State.settle_of_settled _ hset]
    rfl
  · have hdue : s.due .silence = true := by
      rw [State.due_silence, htimer]
      exact decide_eq_true hlimit
    exact State.event_takeExpiry_of_due hheld hdue hfresh
  · refine State.event_takeExpiry_of_not_due hheld hs ?_
    rw [State.due_interByte, hstopped]
    rfl
  · refine State.event_takeExpiry_of_not_due hheld hs ?_
    rw [State.due_silence, hstopped]
    rfl

/-- Settles O46: the row is the break detector's part of the tick, due at the twentieth millisecond of low RXD alone. -/
theorem linkBreakEffect : Obligations.LinkBreakEffect := by
  refine fun s hheld hs => ⟨fun hlow hcount hfresh => ?_, fun hnone => ?_⟩
  · have hdue : s.due .breakDetector = true := by
      rw [State.due_breakDetector, hlow, hcount]
      rfl
    refine (State.event_takeExpiry_of_due hheld hdue hfresh).trans ?_
    let broken : State := { s.expire .breakDetector with msDone := .breakDetector :: s.msDone }
    refine congrArg
      (fun tx => Host.Outcome.next (State.settle { broken with link := { broken.link with tx := tx } })) ?_
    show s.link.tx.abort = _
    cases s.link.tx <;> rfl
  · refine State.event_takeExpiry_of_not_due hheld hs ?_
    rw [State.due_breakDetector]
    rcases hnone with hhigh | hcount
    · rw [hhigh]
      rfl
    · rw [Bool.and_eq_false_iff]
      exact .inr (beq_eq_false_iff_ne.mpr (by omega))

/-! # O59: the reset state -/

theorem ReportQueue.reset_inv (cause : ResetCause) : (ReportQueue.reset cause).Inv := by
  unfold ReportQueue.Inv
  cases cause <;> decide

/-- Settles O59: each invariant's own lemma about a reset, and for the commands the choice that ends them. -/
theorem resetMeetsTheInvariants : Obligations.ResetMeetsTheInvariants := by
  have hreset : State.reset.afterReset .powerOn = State.reset := rfl
  have hranges := State.inRange_afterReset .powerOn State.reset
  have hgathers := State.gathers_afterReset .powerOn State.reset
  have hpairs := pairsSound_standingInvariant.reset .powerOn State.reset
  have hcover := State.coverSound_afterReset .powerOn State.reset
  have hmonitor := State.MonitorSound.afterReset .powerOn State.reset
  rw [hreset] at hranges hgathers hpairs hcover hmonitor
  obtain ⟨hinv, hlow⟩ := State.reset.pairsSound_iff.mp hpairs
  refine ⟨State.poolInv_reset, hranges.rangesInv, State.reset.gathers_iff.mp hgathers, hinv, hlow,
    State.reset.coverSound_iff.mp hcover, State.reset.monitorSound_iff.mp hmonitor, ReportQueue.reset_inv .powerOn,
    Link.reset.sound_iff.mp (Link.Sound.reset true), fun s t ht => ?_⟩
  rcases ht with ht | ht | ht <;> cases ht
  · exact State.settle_settled (.inl rfl)
  · exact State.settle_settled (.inl rfl)
  · exact s.heldInReset_settled

/-! # O6: a request that is not performed at its arrival -/

theorem requestKindOf_some {type : Byte} {k : RequestKind} (h : requestKindOf type = some k) : k.code = type :=
  beq_iff_eq.mp (List.find?_some (p := fun k : RequestKind => k.code == type) h)

/-- The command of a body is the arrival of its frame, whatever its TYPE. -/
theorem exec_commandOfBody (seq type : Byte) (p : List Byte) (s : State) :
    exec (commandOfBody seq type p) s = .next (receiveRequest type seq p s) := by
  unfold commandOfBody
  split
  · next k hk =>
    rw [← requestKindOf_some hk]
    cases k <;> rfl
  · rfl

/-- The state after a frame has been heard and offered to the inbound buffer (R124, R128). -/
def State.offered (f : Frame) (s : State) : State := s.heard.modLink fun l => l.offerFrame f

theorem State.offered_of_room {s : State} (h : s.link.inbound.length < 2) (f : Frame) :
    s.offered f = { s.heard with link := { s.heard.link with inbound := s.link.inbound ++ [f] } } := by
  rw [State.offered, State.modLink, Link.offerFrame_of_room (l := s.heard.link) h]
  rfl

theorem State.offered_of_full {s : State} (h : 2 ≤ s.link.inbound.length) (f : Frame) :
    s.offered f = { s.heard with
      link := { s.heard.link with droppedFrames := min 255 (s.link.droppedFrames + 1), droppedMark := true } } := by
  rw [State.offered, State.modLink, Link.offerFrame_of_full (l := s.heard.link) h]
  rfl

theorem receiveRequest_of_settled {s : State} (hheld : s.held = false) (hs : s.Settled) (type seq : Byte)
    (p : List Byte) : receiveRequest type seq p s =
      (if (s.offered (requestFrame seq type p)).canTake then (s.offered (requestFrame seq type p)).takeRequest
        else s.offered (requestFrame seq type p)).settle := by
  have hafter : (s.modLink Link.afterFrame).Settled := hs.modLink rfl rfl rfl
  rw [receiveRequest, hheld, if_neg Bool.false_ne_true, State.deliver_of_settled hafter]
  rfl

/-- With the holding queue full the frame is offered to the inbound buffer, and stays there. -/
theorem receiveRequest_of_full {s : State} (hheld : s.held = false) (hs : s.Settled)
    (hfull : s.link.holding.length = 2) (type seq : Byte) (p : List Byte) :
    receiveRequest type seq p s = s.offered (requestFrame seq type p) := by
  have hlen : (s.offered (requestFrame seq type p)).link.holding.length = 2 :=
    (congrArg List.length (s.heard.link.offerFrame_holding _)).trans hfull
  have hwaits : (s.offered (requestFrame seq type p)).WaitsForRoom := .inr hlen.ge
  have hbusy : (s.offered (requestFrame seq type p)).link.tx ≠ .idle := fun hi => by
    have hidle : s.link.tx = .idle := (s.heard.link.offerFrame_tx _).symm.trans hi
    rw [(hs.1 hidle).1] at hfull
    cases hfull
  rw [receiveRequest_of_settled hheld hs, (State.canTake_eq_false_iff _).mpr hwaits, if_neg Bool.false_ne_true,
    State.settle_of_settled _ (State.settled_of_busy hbusy hwaits)]

/-- With room in the holding queue the frame is taken at once. -/
theorem receiveRequest_of_room {s : State} (hheld : s.held = false) (hs : s.Settled)
    (hroom : s.link.holding.length < 2) (type seq : Byte) (p : List Byte) :
    receiveRequest type seq p s = (s.heard.handle (requestFrame seq type p)).settle := by
  have hnone : s.link.inbound = [] := hs.2.resolve_right (Nat.not_le.mpr hroom)
  have hoffered := State.offered_of_room (s := s) (by rw [hnone]; decide) (requestFrame seq type p)
  have hone : (s.offered (requestFrame seq type p)).link.inbound = [requestFrame seq type p] := by
    rw [hoffered, hnone]
    rfl
  have htake : (s.offered (requestFrame seq type p)).canTake = true := by
    rw [hoffered, hnone]
    exact decide_eq_true hroom
  have htaken : ((s.offered (requestFrame seq type p)).modLink fun l => { l with inbound := [] }) = s.heard := by
    rw [hoffered]
    simp [State.modLink, State.heard, hnone]
  rw [receiveRequest_of_settled hheld hs, if_pos htake, State.takeRequest_of_cons hone, htaken]

theorem State.handle_of_replay {s : State} {f : Frame} {r : Response} (h : s.replayOf f = some r) :
    s.handle f = s.hold { r with replayed := true } := by
  rw [State.handle, h]

theorem State.replayOf_of_match {s : State} {f : Frame} {e : ReplayEntry} (h : s.replay = some e) (hseq : e.seq = f.seq)
    (hcrc : e.crc = f.crc) : s.replayOf f = some e.response := by
  rw [State.replayOf, h]
  exact if_pos ⟨hseq, hcrc⟩

/-- Settles O6: by the room in the holding queue and in the inbound buffer. -/
theorem frameWaitsIsDroppedOrIsReplayed : Obligations.FrameWaitsIsDroppedOrIsReplayed := by
  intro seq type p s hheld hs
  rw [exec_commandOfBody]
  refine ⟨fun hfull hroom => ?_, fun hfull hnone => ?_, fun e hroom hreplay hseq hcrc => ?_⟩
  · rw [receiveRequest_of_full hheld hs hfull, State.offered_of_room hroom]
  · rw [receiveRequest_of_full hheld hs hfull, State.offered_of_full hnone]
  · have hmatch : s.heard.replayOf (requestFrame seq type p) = some e.response :=
      State.replayOf_of_match hreplay hseq hcrc
    have hidle (hi : s.heard.link.tx = .idle) : s.heard.link.holding = [] := (hs.1 hi).1
    rw [receiveRequest_of_room hheld hs hroom, State.handle_of_replay hmatch]
    exact congrArg _ (State.settle_hold s.heard _ s.heard.replay (hs.2.resolve_right (Nat.not_le.mpr hroom)) hidle)

/-! # O42: the receiver byte by byte -/

/-- RXD at the stop bit of a character received: high, the character over (R122, R134; log entry 10). -/
def State.stopBit (s : State) : State := s.modLink fun l => { l.rxdHigh with rxChar := none }

/-- The end of a received byte's event finds nothing to choose, for the byte's own part leaves a settled state. -/
theorem exec_characterReceived {s : State} (hheld : s.held = false) (hs : s.Settled) (b : Byte) :
    exec (.characterReceived b) s = .next (s.stopBit.receiveByte b) := by
  have hline : s.stopBit.Settled := hs.modLink rfl rfl rfl
  show Host.Outcome.next (if s.held then s else (s.stopBit.receiveByte b).settle) = _
  rw [hheld, if_neg Bool.false_ne_true, State.settle_of_settled _ (State.receiveByte_settled hline b)]

section receiveByte

variable {s : State} {b : Byte}

theorem State.receiveByte_hunt (h : s.link.receiver = .hunt) :
    s.receiveByte b = if b = 0xA5 then s.modLink fun l => l.receiveTo .length else s := by
  rw [State.receiveByte, h]
  rfl

theorem State.receiveByte_length (h : s.link.receiver = .length) : s.receiveByte b =
    if 2 ≤ b.toNat ∧ b.toNat ≤ 198 then s.modLink fun l => l.receiveTo (.body b [])
    else s.modLink fun l => l.countFraming.discardFrame := by
  rw [State.receiveByte, h]

theorem State.receiveByte_body {len : Byte} {bytes : List Byte} (h : s.link.receiver = .body len bytes) :
    s.receiveByte b = s.modLink fun l => l.receiveTo
      (if bytes.length + 1 < len.toNat then .body len (bytes ++ [b]) else .check len (bytes ++ [b]) none) := by
  rw [State.receiveByte, h]

theorem State.receiveByte_high {len : Byte} {bytes : List Byte} (h : s.link.receiver = .check len bytes none) :
    s.receiveByte b = s.modLink fun l => l.receiveTo (.check len bytes (some b)) := by
  rw [State.receiveByte, h]

theorem State.receiveByte_low {len high : Byte} {bytes : List Byte}
    (h : s.link.receiver = .check len bytes (some high)) : s.receiveByte b = s.checkFrame len bytes (high ++ b) := by
  rw [State.receiveByte, h]

end receiveByte

theorem State.checkFrame_of_wrong {len : Byte} {body : List Byte} {crc : BitVec 16} (h : crc16 (len :: body) ≠ crc)
    (s : State) : s.checkFrame len body crc =
      s.modLink fun l => { l.discardFrame with crcErrors := countUp l.crcErrors } := if_neg h

theorem State.checkFrame_of_right {len : Byte} {body : List Byte} {crc : BitVec 16} (h : crc16 (len :: body) = crc)
    (s : State) : s.checkFrame len body crc = (s.modLink Link.discardFrame).deliver (frameOf body crc) := if_pos h

/-- Settles O42: a byte received by the receiver's state (Table 45); a fault and the edges change the link alone. -/
theorem receiverAndLineEvents : Obligations.ReceiverAndLineEvents := by
  intro s hheld hs line store
  refine ⟨fun b => ?_, ?_, rfl, ?_⟩
  · rw [exec_characterReceived hheld hs]
    refine ⟨fun hr => ?_, fun hr => ?_, fun len bytes hr => ?_, fun len bytes hr => ?_,
      fun len bytes high hr hwrong => ?_⟩
    · rw [State.receiveByte_hunt (s := s.stopBit) hr]
      split <;> rfl
    · rw [State.receiveByte_length (s := s.stopBit) hr]
      split <;> rfl
    · rw [State.receiveByte_body (s := s.stopBit) hr]
      split <;> rfl
    · rw [State.receiveByte_high (s := s.stopBit) hr]
      rfl
    · rw [State.receiveByte_low (s := s.stopBit) hr, State.checkFrame_of_wrong hwrong]
      rfl
  · refine congrArg Host.Outcome.next (if_neg ?_)
    rw [hheld]
    exact Bool.false_ne_true
  · have hbegins : (s.link.rxd && s.link.rxChar.isNone && !s.held) = true ↔
        s.link.rxd = true ∧ s.link.rxChar = none := by
      simp [hheld]
    show Host.Outcome.next (s.modLink fun l => { l with
      rxd := false, rxChar := if l.rxd && l.rxChar.isNone && !s.held then some ⟨0, []⟩ else l.rxChar }) = _
    simp only [State.modLink, hbegins]

end Sys2Proof.Machine

namespace Sys2Proof.Machine

/-! # O44: the line TXD and the ends of frames -/

/-! ## The line (R122, R130) -/

theorem charBits_data (b : Byte) {i : Nat} (hlo : 1 ≤ i) (hhi : i ≤ 8) :
    (charBits b).getD i true = b.getLsbD (i - 1) := by
  obtain ⟨j, rfl⟩ := Nat.exists_eq_add_of_le' hlo
  have hj : j < 8 := hhi
  simp [charBits, List.getElem?_append_left, hj]

theorem charBits_stop (b : Byte) {i : Nat} (h : 9 ≤ i) : (charBits b).getD i true = true := by
  obtain rfl | hi := h.eq_or_lt
  · rfl
  · exact List.getD_eq_default _ _ hi

theorem State.txd_of_frame {s : State} {frame : TxFrame} {rate : Rate} {age : Nat}
    (h : s.link.tx = .sending frame rate age ∨ s.link.tx = .aborted frame rate age) :
    (∀ b, frame.bytes[age / rate.charTime]? = some b →
      s.txd = (charBits b).getD (age % rate.charTime / rate.bitTime) true) ∧
    (frame.bytes[age / rate.charTime]? = none → s.txd = true) := by
  rcases h with h | h <;>
    exact ⟨fun b hb => by simp only [State.txd, h, hb], fun hb => by simp only [State.txd, h, hb]⟩

/-! ## The end of a frame (R130, R132, R135) -/

section frameEnds

variable {s : State} {frame : TxFrame} {rate : Rate} {age : Nat}

theorem exec_transmitCompletion_report (h : s.link.tx = .sending frame rate age) (hk : frame.kind = .report) :
    exec .transmitCompletion s = .next (s.modLink fun l => { l with tx := .idle }).settle := by
  show execTransmitCompletion s = _
  simp only [execTransmitCompletion, h, hk]

theorem exec_transmitCompletion_response {tied : Tied} (h : s.link.tx = .sending frame rate age)
    (hk : frame.kind = .response tied) :
    exec .transmitCompletion s = .next ((s.modLink fun l => { l with tx := .idle }).applyTied tied).settle := by
  show execTransmitCompletion s = _
  simp only [execTransmitCompletion, h, hk]

theorem exec_abortedFrameEnd (h : s.link.tx = .aborted frame rate age) :
    exec .abortedFrameEnd s = .next (s.modLink fun l => { l with tx := .idle }).settle := by
  show execAbortedFrameEnd s = _
  simp only [execAbortedFrameEnd, h]

theorem exec_frameEnds_of_idle (h : s.link.tx = .idle) :
    exec .transmitCompletion s = .next s ∧ exec .abortedFrameEnd s = .next s := by
  show execTransmitCompletion s = _ ∧ execAbortedFrameEnd s = _
  simp only [execTransmitCompletion, execAbortedFrameEnd, h, and_self]

end frameEnds

theorem Link.applyRate_of_new {l : Link} {r : Rate} (h : l.pendingRate = some r) (hr : r ≠ l.rate) :
    l.applyRate = { l.discardFrame with rate := r, pendingRate := none, rxChar := none } := by
  rw [Link.applyRate, h]
  exact if_neg hr

/-- Where no rate is pending, or the current one, the completion changes no more than the pending rate (log entry 14). -/
theorem Link.applyRate_of_same {l : Link} (h : l.pendingRate = none ∨ l.pendingRate = some l.rate) :
    l.applyRate = { l with pendingRate := none } := by
  rcases h with h | h
  · cases l
    cases h
    rfl
  · rw [Link.applyRate, h]
    exact if_pos rfl

/-- Settles O44: the bit of the character on TXD, and the end of a frame by its kind. -/
theorem frameEnds : Obligations.FrameEnds := by
  refine ⟨⟨rfl, rfl, rfl, rfl, fun _ => rfl⟩, fun s h => by rw [State.txd, h], ?_, ?_⟩
  · intro s frame rate age h char bit
    obtain ⟨hline, hover⟩ := State.txd_of_frame h
    refine ⟨fun b hb => ⟨fun hstart => ?_, fun hlo hhi => ?_, fun hstop => ?_⟩, fun hlen => ?_⟩
    · exact (hline b hb).trans (congrArg (fun i => (charBits b).getD i true) hstart)
    · exact (hline b hb).trans (charBits_data b hlo hhi)
    · exact (hline b hb).trans (charBits_stop b hstop)
    · exact hover (List.getElem?_eq_none hlen)
  · intro s frame rate age idle
    have settle_congr {l l' : Link} (hl : l = l') : Host.Outcome.next (State.settle { s with link := l }) =
        (.next (State.settle { s with link := l' }) : Host.Outcome State Fault Refusal) := by rw [hl]
    refine ⟨fun h hk => ?_, fun r h hk hpending hr => ?_, fun h hk hsame => ?_, exec_abortedFrameEnd,
      exec_frameEnds_of_idle⟩
    · rcases hk with hk | hk
      · exact exec_transmitCompletion_report h hk
      · exact exec_transmitCompletion_response h hk
    · exact (exec_transmitCompletion_response h hk).trans (settle_congr (Link.applyRate_of_new (l := idle) hpending hr))
    · exact (exec_transmitCompletion_response h hk).trans (settle_congr (Link.applyRate_of_same (l := idle) hsame))

/-! # O45: the choice of the arbiter -/

/-- The oldest unsent record is the first after sent ones. -/
theorem sendOldest_of_sent {sent : List Record} {r : Record} {rest : List Record} (hsent : ∀ x ∈ sent, x.sent = true)
    (hr : r.sent = false) :
    sendOldest (sent ++ r :: rest) = some (r, sent ++ { r with sent := true } :: rest) := by
  induction sent with
  | nil => simp [sendOldest, hr]
  | cons x xs ih =>
    rw [List.forall_mem_cons] at hsent
    simp [sendOldest, hsent.1, ih hsent.2]

theorem State.sendReport_of_unsent {s : State} {sent rest : List Record} {r : Record}
    (hw : s.reports.sentCount < s.reports.window) (hrecords : s.reports.records = sent ++ r :: rest)
    (hsent : ∀ x ∈ sent, x.sent = true) (hr : r.sent = false) :
    s.sendReport = { s with
      link := s.link.send .report r.body
      reports := { s.reports with records := sent ++ { r with sent := true } :: rest } } := by
  rw [State.sendReport, if_pos hw]
  simp only [hrecords, sendOldest_of_sent hsent hr]

/-- A full holding queue and an IDLE transmitter: the response that leaves lets the handler take the oldest frame
(R137, second event). -/
theorem State.settle_of_full {s : State} {f : Frame} {waiting : List Frame} {r r' : Response}
    (hin : s.link.inbound = f :: waiting) (hidle : s.link.tx = .idle) (hheld : s.link.holding = [r, r']) :
    s.settle = (s.modLink fun l => { l.sendResponse r [r'] with inbound := waiting }).handle f := by
  have hchosen := State.arbitrate_of_response hidle hheld
  have hwait : s.arbitrate.link.inbound = f :: waiting := s.arbitrate_inbound.trans hin
  have htake : s.arbitrate.canTake = true := by
    rw [State.canTake, hwait, hchosen]
    rfl
  have htaken : s.arbitrate.takeRequest =
      (s.modLink fun l => { l.sendResponse r [r'] with inbound := waiting }).handle f := by
    rw [State.takeRequest_of_cons hwait, hchosen]
    rfl
  obtain ⟨-, htx, hlen⟩ :=
    State.handle_hold f (s.modLink fun l => { l.sendResponse r [r'] with inbound := waiting })
  have hs : State.Settled ((s.modLink fun l => { l.sendResponse r [r'] with inbound := waiting }).handle f) :=
    State.settled_of_busy (fun hi => Transmitter.noConfusion (htx.mp hi)) (.inr hlen.ge)
  have hsettle : s.settle = if s.arbitrate.canTake then State.settleFor 1 s.arbitrate.takeRequest
      else s.arbitrate := rfl
  rw [hsettle, htake, if_pos rfl, htaken, State.settleFor_of_settled hs]

theorem State.handle_of_fresh {s : State} {f : Frame}
    (h : ∀ e, s.replay = some e → ¬(e.seq = f.seq ∧ e.crc = f.crc)) :
    s.handle f = { (perform f s).2.hold (buildResponse f (perform f s).1) with
      replay := some { seq := f.seq, crc := f.crc,
                       response := { buildResponse f (perform f s).1 with tied := .none } } } := by
  have hnone : s.replayOf f = none := by
    unfold State.replayOf
    split
    · next e he => exact if_neg (h e he)
    · rfl
  rw [State.handle, hnone]

/-- Settles O45: with no frame waiting the end of an event is the arbiter's choice; with the holding queue full it is
that choice and one request taken (`State.settle_of_full`). -/
theorem arbiterChoice : Obligations.ArbiterChoice := by
  refine ⟨fun s hin => ?_, fun s f waiting r r' hin => ⟨fun hbusy hheld => ?_, fun hidle hheld => ?_⟩⟩
  · rw [s.settle_of_inbound_nil hin]
    refine ⟨s.arbitrate_of_busy, fun r rest hidle hheld => ?_, fun sent r rest hidle hheld hw hrecords hsent hr => ?_,
      fun hidle hheld hnone => ?_⟩
    · exact State.arbitrate_of_response hidle hheld
    · rw [State.arbitrate_of_none_held hidle hheld, State.sendReport_of_unsent hw hrecords hsent hr]
      rfl
    · rw [State.arbitrate_of_none_held hidle hheld, s.sendReport_of_not_eligible hnone]
  · refine State.settle_of_settled s (State.settled_of_busy hbusy (.inr ?_))
    rw [hheld]
    exact Nat.le_refl 2
  · rw [State.settle_of_full hin hidle hheld]
    exact ⟨fun e hreplay hseq hcrc => State.handle_of_replay (State.replayOf_of_match hreplay hseq hcrc),
      fun hfresh => State.handle_of_fresh hfresh⟩

end Sys2Proof.Machine

namespace Sys2Proof.Machine

/-! # O43: the bytes of a frame, and their reception -/

/-! ## The CRC bit by bit (R124) -/

/-- One bit fed into the CRC's register: the generator is added where the bit differs from the one that leaves. -/
def crcFeed (reg : BitVec 16) (bit : Bool) : BitVec 16 :=
  if reg.msb = bit then reg <<< 1 else (reg <<< 1) ^^^ 0x1021#16

/-- A word added to the register before a shift is its top bit fed, and the rest of it added after the shift. -/
theorem crcBit_xor (reg w : BitVec 16) : crcBit (reg ^^^ w) = crcFeed reg w.msb ^^^ (w <<< 1) := by
  have hlast : reg <<< 1 ^^^ w <<< 1 ^^^ 0x1021#16 = reg <<< 1 ^^^ 0x1021#16 ^^^ w <<< 1 := by
    rw [BitVec.xor_assoc, BitVec.xor_comm (w <<< 1), ← BitVec.xor_assoc]
  rw [crcBit, crcFeed, BitVec.msb_xor, BitVec.shiftLeft_xor_distrib]
  by_cases hbit : reg.msb = w.msb
  · rw [if_pos hbit, if_neg (by simp [hbit])]
  · rw [if_neg hbit, if_pos (by simpa using hbit), hlast]

theorem repeat_crcBit_xor (n : Nat) (reg w : BitVec 16) : Nat.repeat crcBit n (reg ^^^ w) =
    ((List.range n).map fun i => (w <<< i).msb).foldl crcFeed reg ^^^ (w <<< n) := by
  induction n with
  | zero => simp [Nat.repeat]
  | succ n ih =>
    rw [Nat.repeat, ih, crcBit_xor, List.range_succ, List.map_append, List.foldl_append, BitVec.shiftLeft_add]
    rfl

/-- Feeding a byte is feeding its bits, the most significant first: the byte stands at the top of the word. -/
theorem crcByte_eq (reg : BitVec 16) (b : Byte) :
    crcByte reg b = ((List.range 8).map b.getMsbD).foldl crcFeed reg := by
  have hout : b.zeroExtend 16 <<< 8 <<< 8 = 0#16 := by
    rw [← BitVec.shiftLeft_add]
    exact BitVec.shiftLeft_eq_zero (Nat.le_refl 16)
  have hbits : ((List.range 8).map fun i => (b.zeroExtend 16 <<< 8 <<< i).msb) = (List.range 8).map b.getMsbD := by
    refine List.map_congr_left fun i _ => ?_
    have hplace : 0 + (8 + i) + 8 - 16 = i := by omega
    rw [← BitVec.shiftLeft_add, BitVec.msb_eq_getMsbD_zero]
    simp only [BitVec.getMsbD_shiftLeft, BitVec.getMsbD_setWidth, hplace]
    simp
  rw [crcByte, repeat_crcBit_xor, hout, hbits, BitVec.xor_zero]

theorem crc16_eq (bytes : List Byte) :
    crc16 bytes = (bytes.flatMap fun b => (List.range 8).map b.getMsbD).foldl crcFeed 0xFFFF#16 := by
  rw [crc16, List.foldl_flatMap]
  exact congrArg (fun f => bytes.foldl f _) (funext fun reg => funext fun b => crcByte_eq reg b)

theorem highByte_eq (w : BitVec 16) : highByte w = w.extractLsb' 8 8 := by
  apply BitVec.eq_of_toNat_eq
  simp [highByte, BitVec.extractLsb'_toNat, Nat.shiftRight_eq_div_pow]

theorem lowByte_eq (w : BitVec 16) : lowByte w = w.extractLsb' 0 8 := by
  apply BitVec.eq_of_toNat_eq
  simp [lowByte, BitVec.extractLsb'_toNat]

theorem highByte_append_lowByte (w : BitVec 16) : highByte w ++ lowByte w = w := by
  rw [highByte_eq, lowByte_eq, BitVec.extractLsb'_append_extractLsb'_eq_extractLsb' (by rfl)]
  exact BitVec.extractLsb'_eq_self

/-! ## The characters of a frame (R123, R124; log entry 6) -/

/-- The receiver within a frame: its state, and the inter-byte timer started again. -/
def State.receiving (r : Receiver) (s : State) : State := s.modLink fun l => l.receiveTo r

/-- What a received character leads to. -/
def State.afterCharacter (s : State) (b : Byte) : State :=
  if s.held then s else (s.stopBit.receiveByte b).settle

theorem exec_characterReceived_eq (b : Byte) (s : State) :
    exec (.characterReceived b) s = .next (s.afterCharacter b) := rfl

/-- With RXD high and no character in progress a stop bit moves nothing. -/
theorem Link.rxdHigh_of_high {l : Link} (hhigh : l.rxd = true) (hbetween : l.rxChar = none) :
    ({ l.rxdHigh with rxChar := none } : Link) = l := by
  cases l
  cases hhigh
  cases hbetween
  rfl

/-- A part that takes a frame's characters: nothing is left to choose, RXD is high and no character is in progress. -/
structure State.TakesCharacters (s : State) : Prop where
  running : s.held = false
  settled : s.Settled
  high : s.link.rxd = true
  between : s.link.rxChar = none

namespace State.TakesCharacters

variable {s : State}

theorem receiving (h : s.TakesCharacters) (r : Receiver) : (s.receiving r).TakesCharacters where
  running := h.running
  settled := h.settled.modLink rfl rfl rfl
  high := h.high
  between := h.between

theorem afterCharacter (h : s.TakesCharacters) (b : Byte) : s.afterCharacter b = s.receiveByte b := by
  have hstop : s.stopBit = s := by
    rw [State.stopBit, State.modLink, Link.rxdHigh_of_high h.high h.between]
  rw [State.afterCharacter, h.running, if_neg Bool.false_ne_true, hstop]
  exact State.settle_of_settled _ (State.receiveByte_settled h.settled b)

theorem afterSync (h : s.TakesCharacters) (hr : s.link.receiver = .hunt) :
    s.afterCharacter Config.syncByte = s.receiving .length := by
  rw [h.afterCharacter, State.receiveByte_hunt hr]
  exact if_pos rfl

theorem afterLength (h : s.TakesCharacters) {len : Byte} (hlen : 2 ≤ len.toNat ∧ len.toNat ≤ 198) :
    (s.receiving .length).afterCharacter len = s.receiving (.body len []) := by
  rw [(h.receiving _).afterCharacter, State.receiveByte_length rfl]
  exact if_pos hlen

/-- The bytes of the body, up to the last, which ends it. -/
theorem afterBody (h : s.TakesCharacters) {len : Byte} (rest bytes : List Byte)
    (hlen : bytes.length + rest.length = len.toNat) (hne : rest ≠ []) :
    rest.foldl State.afterCharacter (s.receiving (.body len bytes)) =
      s.receiving (.check len (bytes ++ rest) none) := by
  induction rest generalizing bytes with
  | nil => exact absurd rfl hne
  | cons b rest ih =>
    rw [List.foldl_cons, (h.receiving _).afterCharacter, State.receiveByte_body rfl]
    rw [List.length_cons] at hlen
    cases rest with
    | nil =>
      rw [if_neg (by simp at hlen; omega)]
      rfl
    | cons b' rest =>
      have hmore : bytes.length + 1 < len.toNat := by
        rw [List.length_cons] at hlen
        omega
      have hlen' : (bytes ++ [b]).length + (b' :: rest).length = len.toNat := by
        rw [List.length_append, List.length_singleton]
        omega
      rw [if_pos hmore]
      refine (ih (bytes ++ [b]) hlen' (List.cons_ne_nil _ _)).trans ?_
      rw [List.append_assoc, List.singleton_append]

/-- The two CRC bytes, where they are those of the body: the frame arrives (R124). -/
theorem afterCrc (h : s.TakesCharacters) {body : List Byte} {len : Byte} {crc : BitVec 16}
    (hcrc : crc16 (len :: body) = crc) :
    [highByte crc, lowByte crc].foldl State.afterCharacter (s.receiving (.check len body none)) =
      (s.modLink Link.afterFrame).deliver (frameOf body crc) := by
  have hhigh : (s.receiving (.check len body none)).afterCharacter (highByte crc) =
      s.receiving (.check len body (some (highByte crc))) := by
    rw [(h.receiving _).afterCharacter, State.receiveByte_high rfl]
    rfl
  rw [List.foldl_cons, hhigh, List.foldl_cons, List.foldl_nil, (h.receiving _).afterCharacter,
    State.receiveByte_low rfl, highByte_append_lowByte, State.checkFrame_of_right hcrc]
  rfl

/-- The characters of a whole frame are its arrival. -/
theorem afterFrame (h : s.TakesCharacters) (hr : s.link.receiver = .hunt) {body : List Byte}
    (hlen : 2 ≤ body.length ∧ body.length ≤ 198) :
    (frameBytes body).foldl State.afterCharacter s =
      (s.modLink Link.afterFrame).deliver (frameOf body (bodyCrc body)) := by
  have hbyte : (lenByte body).toNat = body.length := toNat_ofNat_byte (by omega)
  have hne : body ≠ [] := List.ne_nil_of_length_pos (by omega)
  have hhead : [Config.syncByte, lenByte body].foldl State.afterCharacter s =
      s.receiving (.body (lenByte body) []) := by
    rw [List.foldl_cons, h.afterSync hr]
    exact h.afterLength (by rwa [hbyte])
  have hbody := h.afterBody body [] (by rw [hbyte]; exact Nat.zero_add _) hne
  rw [frameBytes, List.foldl_append, List.foldl_append, hhead, hbody]
  exact h.afterCrc rfl

end State.TakesCharacters

/-- Settles O43: the CRC's register by single bits (`crc16_eq`), and a frame's characters taken part by part
(`State.TakesCharacters.afterFrame`). -/
theorem receivedFrameIsTheRequest : Obligations.ReceivedFrameIsTheRequest := by
  refine ⟨fun body => ?_, crc16_eq, by decide +kernel, fun s seq type p hfits hheld hs hr hhigh hbetween => ?_⟩
  · intro len crc
    rw [frameBytes, highByte_eq, lowByte_eq]
    rfl
  · have hlen : p.length ≤ 196 := of_decide_eq_true hfits
    have h : s.TakesCharacters := ⟨hheld, hs, hhigh, hbetween⟩
    rw [exec_commandOfBody, receiveRequest, hheld, if_neg Bool.false_ne_true]
    refine (List.foldl_hom Host.Outcome.next fun _ _ => rfl).trans (congrArg Host.Outcome.next ?_)
    exact h.afterFrame hr (body := seq :: type :: p) ⟨by simp, by simp only [List.length_cons]; omega⟩

end Sys2Proof.Machine

namespace Sys2Proof.Machine

/-! # O4 and O5: a request performed or refused, and the bytes of its answer -/

/-! ## The frame of a request, and the TYPE of its answer (R157) -/

theorem commandFrame_command (k : RequestKind) (seq : Byte) (p : List Byte) :
    commandFrame (k.command seq p) = requestFrame seq k.code p := by
  cases k <;> rfl

theorem responseType_code (k : RequestKind) : responseType k.code = k.code + 0x80 := by
  rw [responseType, requestKindOf_code]
  rfl

theorem requestKind_code_range (k : RequestKind) : 1 ≤ k.code.toNat ∧ k.code.toNat ≤ 0x20 := by
  cases k <;> decide

theorem requestKindOf_none {type : Byte} (h : type.toNat = 0 ∨ 0x20 < type.toNat) : requestKindOf type = none := by
  cases hk : requestKindOf type with
  | none => rfl
  | some k =>
    obtain ⟨hlo, hhi⟩ := requestKind_code_range k
    rw [requestKindOf_some hk] at hlo hhi
    omega

theorem perform_unknown {f : Frame} (h : requestKindOf f.type = none) (s : State) :
    perform f s = refuse .badType s := by
  rw [perform, h]

/-- A frame of an unknown kind is refused by a ready part, as `perform` refuses it. -/
theorem refused_of_unknown {seq type : Byte} {p : List Byte} {s : State} (h : requestKindOf type = none)
    (hready : s.Ready (.unknownRequestKind seq type p)) : Refused (.unknownRequestKind seq type p) s .badType := by
  obtain ⟨hheld, hs, hroom, hfresh⟩ := hready
  have htake := receiveRequest_ready type seq p s hheld hs hroom hfresh (perform_keepsFrames _ _)
  rw [perform_unknown (f := requestFrame seq type p) h] at htake
  exact congrArg Host.Outcome.next htake

/-! ## A refusal changes nothing (R138) -/

/-- How a request may be decided: refused, with nothing changed and nothing said but the status, or done. -/
inductive Decided (s : State) : Reply × State → Prop
  | refused (st : Status) : Decided s (refuse st s)
  | done {r : Reply} {t : State} (h : r.status = .ok ∨ r.status = .pending) : Decided s (r, t)

namespace Decided

variable {s : State}

theorem accept_ok (payload : List Byte) (t : State) : Decided s (accept .ok payload t) := .done (.inl rfl)

theorem accept_pending (payload : List Byte) (t : State) : Decided s (accept .pending payload t) := .done (.inr rfl)

/-- PENDING where something is left to wait for, else OK (R55, R56, R145). -/
theorem pendingIf {r : Reply} {t : State} {waits : Bool} (h : r.status = if waits then .pending else .ok) :
    Decided s (r, t) := by
  refine .done ?_
  cases waits with
  | true => exact .inr h
  | false => exact .inl h

theorem ite {c : Prop} [Decidable c] {e e' : Reply × State} (h : Decided s e) (h' : Decided s e') :
    Decided s (if c then e else e') := by
  split
  · exact h
  · exact h'

/-- The length test that every request begins with. -/
theorem lengthTest {c : Prop} [Decidable c] {e : Reply × State} (h : Decided s e) :
    Decided s (if c then refuse .badLength s else e) := .ite (.refused _) h

theorem checked {tests : List (Bool × Status)} {e : Reply × State} (h : Decided s e) :
    Decided s (checked tests s e) := by
  rcases checked_cases tests s e with ⟨st, hr⟩ | hr
  · rw [hr]
    exact .refused st
  · rwa [hr]

theorem forSet {p : List Byte} {bad : Channel → Bool} {effect : ChSet → Reply × State}
    (h : ∀ set, Decided s (effect set)) : Decided s (forSet p s bad effect) :=
  .lengthTest (.checked (h _))

/-- A status other than OK and PENDING is that of a refusal. -/
theorem eq_refuse {e : Reply × State} (h : Decided s e) (hok : e.1.status ≠ .ok) (hpending : e.1.status ≠ .pending) :
    e = refuse e.1.status s := by
  cases h with
  | refused st => rfl
  | done hdone => exact absurd hdone (not_or.mpr ⟨hok, hpending⟩)

end Decided

/-! ### By request: the fields are in their ranges or not, and each test that fails refuses -/

theorem takeGetStatus_decided (p : List Byte) (s : State) : Decided s (takeGetStatus p s) := by
  refine .lengthTest ?_
  split
  · exact .refused _
  · exact .accept_ok _ _

theorem takeSetLink_decided (p : List Byte) (s : State) : Decided s (takeSetLink p s) := by
  refine .lengthTest ?_
  split
  · exact .ite (.refused _) (.pendingIf rfl)
  · exact .refused _

theorem takeTbConfig_decided (p : List Byte) (s : State) : Decided s (takeTbConfig p s) := by
  refine .lengthTest ?_
  split
  · exact .ite (.refused _) (.accept_ok _ _)
  · exact .refused _

theorem takeTbStart_decided (p : List Byte) (s : State) : Decided s (takeTbStart p s) := by
  refine .lengthTest ?_
  split
  · exact .refused _
  · exact .ite (.refused _) (.accept_ok _ _)

theorem takeTbStop_decided (p : List Byte) (s : State) : Decided s (takeTbStop p s) := by
  refine .lengthTest ?_
  split
  · exact .refused _
  · exact .accept_ok _ _

theorem takeTbPeriod_decided (seq : Byte) (p : List Byte) (s : State) : Decided s (takeTbPeriod seq p s) := by
  refine .lengthTest ?_
  split
  · split
    · exact .accept_ok _ _
    · exact .accept_pending _ _
    · exact .ite (.accept_ok _ _) (.accept_ok _ _)
  · exact .refused _

theorem takeTbQuery_decided (p : List Byte) (s : State) : Decided s (takeTbQuery p s) := by
  refine .lengthTest ?_
  split
  · exact .accept_ok _ _
  · exact .refused _

theorem takeSegAppend_decided (p : List Byte) (s : State) : Decided s (takeSegAppend p s) := by
  refine .lengthTest ?_
  split
  · exact .checked (.accept_ok _ _)
  · exact .refused _

theorem takeSegReplace_decided (seq : Byte) (p : List Byte) (s : State) : Decided s (takeSegReplace seq p s) := by
  refine .lengthTest ?_
  split
  · exact .checked (.accept_pending _ _)
  · exact .refused _

theorem takeChConfig_decided (p : List Byte) (s : State) : Decided s (takeChConfig p s) := by
  refine .lengthTest ?_
  split
  · exact .checked (.accept_ok _ _)
  · exact .refused _

theorem takeChLevel_decided (seq : Byte) (p : List Byte) (s : State) : Decided s (takeChLevel seq p s) := by
  refine .lengthTest ?_
  split
  · exact .checked (.accept_pending _ _)
  · exact .refused _

theorem takeChQuery_decided (p : List Byte) (s : State) : Decided s (takeChQuery p s) := by
  refine .lengthTest ?_
  split
  · exact .accept_ok _ _
  · exact .refused _

theorem takeRpDefine_decided (p : List Byte) (s : State) : Decided s (takeRpDefine p s) := by
  refine .lengthTest ?_
  split
  · exact .ite (.refused _) (.accept_ok _ _)
  · exact .refused _

theorem takeRpQuery_decided (p : List Byte) (s : State) : Decided s (takeRpQuery p s) := by
  refine .lengthTest ?_
  split
  · exact .accept_ok _ _
  · exact .refused _

theorem takePairConfig_decided (p : List Byte) (s : State) : Decided s (takePairConfig p s) := by
  refine .lengthTest ?_
  split
  · exact .ite (.refused _) (.accept_ok _ _)
  · exact .refused _

theorem takeRouteSet_decided (p : List Byte) (s : State) : Decided s (takeRouteSet p s) := by
  refine .lengthTest ?_
  split
  · exact .accept_ok _ _
  · exact .refused _

theorem takePinConfig_decided (p : List Byte) (s : State) : Decided s (takePinConfig p s) := by
  refine .lengthTest ?_
  split
  · exact .accept_ok _ _
  · exact .refused _

theorem takeFaultConfig_decided (p : List Byte) (s : State) : Decided s (takeFaultConfig p s) := by
  refine .lengthTest ?_
  split
  · split
    · exact .ite (.refused _) (.accept_ok _ _)
    · exact .refused _
  · exact .refused _

theorem takeFaultClear_decided (p : List Byte) (s : State) : Decided s (takeFaultClear p s) := by
  refine .lengthTest ?_
  split
  · exact .refused _
  · exact .ite (.refused _) (.ite (.accept_ok _ _) (.accept_ok _ _))

theorem takeFaultQuery_decided (p : List Byte) (s : State) : Decided s (takeFaultQuery p s) := by
  refine .lengthTest ?_
  split
  · exact .accept_ok _ _
  · exact .refused _

theorem takeSmConfig_decided (p : List Byte) (s : State) : Decided s (takeSmConfig p s) := by
  refine .lengthTest ?_
  split
  · exact .accept_ok _ _
  · exact .refused _

theorem takeSmQuery_decided (p : List Byte) (s : State) : Decided s (takeSmQuery p s) := by
  refine .lengthTest ?_
  split
  · exact .accept_ok _ _
  · exact .refused _

theorem takeRptAck_decided (p : List Byte) (s : State) : Decided s (takeRptAck p s) := by
  refine .lengthTest ?_
  split
  · exact .refused _
  · exact .accept_ok _ _

/-- Every request is refused with nothing changed, or done. -/
theorem perform_decided (f : Frame) (s : State) : Decided s (perform f s) := by
  unfold perform
  split
  · exact .refused .badType
  · next kind _ =>
    cases kind with
    | getInfo => exact .lengthTest (.accept_ok _ _)
    | getStatus => exact takeGetStatus_decided _ s
    | setLink => exact takeSetLink_decided _ s
    | resetDevice => exact .lengthTest (.done (.inl rfl))
    | tbConfig => exact takeTbConfig_decided _ s
    | tbStart => exact takeTbStart_decided _ s
    | tbStop => exact takeTbStop_decided _ s
    | tbPeriod => exact takeTbPeriod_decided _ _ s
    | tbQuery => exact takeTbQuery_decided _ s
    | chQuota => exact .lengthTest (.checked (.accept_ok _ _))
    | segAppend => exact takeSegAppend_decided _ s
    | segReplace => exact takeSegReplace_decided _ _ s
    | chConfig => exact takeChConfig_decided _ s
    | chLevel => exact takeChLevel_decided _ _ s
    | chStart => exact .forSet fun _ => .accept_ok _ _
    | chPause => exact .forSet fun _ => .pendingIf rfl
    | chResume => exact .forSet fun _ => .pendingIf rfl
    | chFlush => exact .forSet fun _ => .accept_ok _ _
    | chQuery => exact takeChQuery_decided _ s
    | rpDefine => exact takeRpDefine_decided _ s
    | rpQuery => exact takeRpQuery_decided _ s
    | pairConfig => exact takePairConfig_decided _ s
    | routeSet => exact takeRouteSet_decided _ s
    | pinConfig => exact takePinConfig_decided _ s
    | outQuery => exact .lengthTest (.accept_ok _ _)
    | faultConfig => exact takeFaultConfig_decided _ s
    | faultClear => exact takeFaultClear_decided _ s
    | faultQuery => exact takeFaultQuery_decided _ s
    | smConfig => exact takeSmConfig_decided _ s
    | smQuery => exact takeSmQuery_decided _ s
    | rptAck => exact takeRptAck_decided _ s
    | rptResend => exact .lengthTest (.accept_ok _ _)

/-! ## The bytes of an answer (R157, R158) -/

/-- REPLAYED is bit 0 of FLAGS, DROPPED bit 1. -/
theorem Response.flags_eq (r : Response) :
    r.flags = (if r.replayed then 1 else 0) + (if r.dropped then 2 else 0) := by
  unfold Response.flags
  cases r.replayed <;> cases r.dropped <;> rfl

/-- Settles O4: what `perform` gives is the answer (`answered_of_perform`), and a refusal is told by its status
(`perform_decided`). -/
theorem readyPartPerformsAndAnswers : Obligations.ReadyPartPerformsAndAnswers := by
  refine ⟨fun k seq p s hready => ?_, fun f s hok hpending => ?_, fun r => ?_, fun k seq p st payload tied => ?_,
    by decide⟩
  · rw [commandFrame_command]
    exact answered_of_perform k seq p s _ _ hready rfl
  · rw [(perform_decided f s).eq_refuse hok hpending]
    exact ⟨rfl, rfl, rfl⟩
  · rw [Response.body, r.flags_eq]
    cases r.status <;> rfl
  · have htype : (commandFrame (k.command seq p)).type = k.code := by
      rw [commandFrame_command]
      rfl
    refine ⟨htype, ?_, responseType_code k⟩
    rw [responseTo, htype]
    exact responseType_code k

/-! ## Lengths (R159, Table 61) -/

/-- The lengths of a fixed part with one to sixteen whole encodings are those in the list of Table 61. -/
theorem segmentsLengthOk_of_none {fixed length : Nat}
    (h : ((List.range 16).any fun i => length == fixed + 6 * (i + 1)) = false) :
    segmentsLengthOk fixed length = false := by
  rw [List.any_eq_false] at h
  by_contra hok
  simp only [segmentsLengthOk, Bool.not_eq_false, Bool.and_eq_true, decide_eq_true_eq, beq_iff_eq] at hok
  refine h ((length - fixed) / 6 - 1) (List.mem_range.mpr (by omega)) (beq_iff_eq.mpr ?_)
  omega

/-- Every request begins with its length test, and refuses whatever a payload of a wrong length holds. -/
theorem perform_wrongLength {k : RequestKind} {p : List Byte} (h : lengthOk k p.length = false) (seq : Byte)
    (s : State) : perform (requestFrame seq k.code p) s = refuse .badLength s := by
  cases k with
  | segAppend => exact if_pos (segmentsLengthOk_of_none h)
  | segReplace => exact if_pos (segmentsLengthOk_of_none h)
  | _ => exact if_pos (ne_of_beq_false h)

/-- Settles O5: every request tests its length first (`perform_wrongLength`), and the codes of the kinds are 0x01 to
0x20 (`requestKind_code_range`). -/
theorem wrongLengthAndUnknownKindRefused : Obligations.WrongLengthAndUnknownKindRefused := by
  refine ⟨fun k seq p s hlen hready => refused_of_perform hready (perform_wrongLength hlen seq _),
    fun seq type p s hrange hready => ?_⟩
  have hunknown := requestKindOf_none hrange
  refine ⟨refused_of_unknown hunknown hready, ?_, rfl⟩
  show responseType type = 0xFF
  rw [responseType, hunknown]
  rfl

/-! # O7 and O8: GET_INFO and GET_STATUS -/

theorem perform_getInfo (seq : Byte) (p : List Byte) (s : State) :
    perform (requestFrame seq RequestKind.getInfo.code p) s = takeGetInfo p s := rfl

theorem perform_getStatus (seq : Byte) (p : List Byte) (s : State) :
    perform (requestFrame seq RequestKind.getStatus.code p) s = takeGetStatus p s := rfl

theorem infoPayload_bytes : infoPayload = [0x54, 0x20, 0x16, 2, 16, 4, 8, 24, 20, 4, 0x00, 0x02] := rfl

/-- Settles O7: a length test, and the bytes of Table 52. -/
theorem getInfoAnswers : Obligations.GetInfoAnswers := by
  refine fun s seq p hready => ⟨fun hne => ?_, fun hnil => ?_⟩
  · exact refused_of_perform (k := .getInfo) hready
      (perform_wrongLength (k := .getInfo) (beq_false_of_ne (mt List.length_eq_zero_iff.mp hne)) seq _)
  · subst hnil
    refine accepted_of_perform (k := .getInfo) hready ?_
    rw [perform_getInfo, ← infoPayload_bytes]
    rfl

theorem pendingRateBytes_eq (r : Option Rate) :
    pendingRateBytes r = match r with
      | none => [0, 0, 0, 0, 0]
      | some r => [1] ++ le32 r.baud := by
  cases r <;> rfl

/-- Table 63. -/
theorem State.statusPayload_bytes (s : State) :
    s.statusPayload = le8 s.link.crcErrors ++ le8 s.link.framingErrors ++ le8 s.link.timeouts ++
      le8 s.link.droppedFrames ++ le32 s.link.rate.baud ++
      (match s.link.pendingRate with
        | none => [0, 0, 0, 0, 0]
        | some r => [1] ++ le32 r.baud) ++
      le16 s.link.silenceLimit ++
      (match s.link.silenceTimer with
        | none => [0, 0, 0]
        | some n => [1] ++ le16 n) ++
      le8 s.reports.window ++ le8 s.reports.records.length ++ le8 s.reports.sentCount := by
  rw [State.statusPayload, pendingRateBytes_eq]
  cases s.link.silenceTimer <;> rfl

/-- GET_STATUS by its flag: the values are those before the counters are cleared (R144). -/
theorem takeGetStatus_flag {v : Byte} (h : v.toNat ≤ 1) (s : State) :
    takeGetStatus [v] s = accept .ok s.statusPayload (if v = 1 then s.modLink Link.clearCounters else s) := by
  have hset : v.toNat = 1 ↔ v = 1 := BitVec.toNat_inj (y := (1 : Byte))
  have hlen : [v].length = 1 := rfl
  rw [takeGetStatus, if_neg (not_not.mpr hlen), u8_single, mark?_of_le h]
  simp only [decide_eq_true_eq, hset]

/-- Settles O8: a flag out of range is refused, and either flag is answered with Table 63. -/
theorem getStatusAnswers : Obligations.GetStatusAnswers := by
  refine fun s seq v hready => ⟨fun hbad => ?_, fun hle => ?_⟩
  · refine refused_of_perform (k := .getStatus) hready ?_
    rw [perform_getStatus, takeGetStatus, u8_single, mark?_none hbad]
    rfl
  · refine accepted_of_perform (k := .getStatus) hready ?_
    rw [perform_getStatus, takeGetStatus_flag hle, State.statusPayload_bytes]
    rfl

/-! # O9: SET_LINK -/

theorem perform_setLink (seq : Byte) (p : List Byte) (s : State) :
    perform (requestFrame seq RequestKind.setLink.code p) s = takeSetLink p s := rfl

/-! ## The three changes as the payload spells them (R145) -/

theorem toNat_ofNat_fourBytes {n : Nat} (h : n < 4294967296) :
    (BitVec.ofNat 8 n).toNat + 256 * (BitVec.ofNat 8 (n / 256)).toNat +
      65536 * ((BitVec.ofNat 8 (n / 65536)).toNat + 256 * (BitVec.ofNat 8 (n / 65536 / 256)).toNat) = n := by
  simp only [BitVec.toNat_ofNat]
  omega

theorem setLink_fields {rateMark windowMark limitMark : Bool} {baud w n : Nat} (hbaud : baud < 4294967296)
    (hw : w < 256) (hn : n < 65536) :
    let p := flagByte rateMark ++ le32 baud ++ flagByte windowMark ++ le8 w ++ flagByte limitMark ++ le16 n
    p.length = 10 ∧ u8 p 0 = rateMark.toNat ∧ u32 p 1 = baud ∧ u8 p 5 = windowMark.toNat ∧ u8 p 6 = w ∧
      u8 p 7 = limitMark.toNat ∧ u16 p 8 = n :=
  have hmark (b : Bool) : b.toNat < 256 := by cases b <;> decide
  ⟨rfl, toNat_ofNat_byte (hmark _), toNat_ofNat_fourBytes hbaud, toNat_ofNat_byte (hmark _), toNat_ofNat_byte hw,
    toNat_ofNat_byte (hmark _), toNat_ofNat_bytes hn⟩

theorem Rate.baud_lt (r : Rate) : r.baud < 4294967296 := by
  cases r <;> decide

theorem rate?_baud (r : Rate) : rate? r.baud = some r := by
  cases r <;> rfl

theorem rate?_none {v : Nat} (h : v ≠ 115200 ∧ v ≠ 230400 ∧ v ≠ 460800 ∧ v ≠ 921600) : rate? v = none := by
  obtain ⟨h1, h2, h3, h4⟩ := h
  rw [rate?, if_neg h1, if_neg h2, if_neg h3, if_neg h4]

theorem silenceLimit?_of {n : Nat} (h : n = 0 ∨ (10 ≤ n ∧ n ≤ 10000)) : silenceLimit? n = some n := by
  unfold silenceLimit?
  split
  · next hz => rw [hz]
  · next hz => exact within?_of (h.resolve_left hz)

theorem silenceLimit?_none {n : Nat} (h : ¬(n = 0 ∨ (10 ≤ n ∧ n ≤ 10000))) : silenceLimit? n = none := by
  obtain ⟨hz, hrange⟩ := not_or.mp h
  rw [silenceLimit?, if_neg hz, within?_none hrange]

section change

variable {α : Type} {f : Nat → Option α}

/-- A change spelt by its mark, and by its value or zero, is read back. -/
theorem change?_spelt (spell : α → Nat) {x : Option α} (h : ∀ v ∈ x, f (spell v) = some v) :
    change? x.isSome.toNat ((x.map spell).getD 0) f = some x := by
  cases x with
  | none => rfl
  | some v => exact congrArg (Option.map some) (h v rfl)

/-- A change to a number, which is spelt as it is. -/
theorem change?_number {f : Nat → Option Nat} {x : Option Nat} (h : ∀ v ∈ x, f v = some v) :
    change? x.isSome.toNat (x.getD 0) f = some x := by
  have hspelt := change?_spelt (f := f) id h
  rwa [Option.map_id] at hspelt

/-- What makes a change unreadable: its mark, a value beside a clear mark, or a value out of range. -/
theorem change?_none {mark value : Nat}
    (h : 1 < mark ∨ (mark = 0 ∧ value ≠ 0) ∨ (mark = 1 ∧ f value = none)) : change? mark value f = none := by
  rcases h with hmark | ⟨rfl, hvalue⟩ | ⟨rfl, hrange⟩
  · rw [change?, mark?_none hmark]
  · exact if_neg hvalue
  · exact congrArg (Option.map some) hrange

theorem change?_number_none {f : Nat → Option Nat} {x : Option Nat} (h : ∃ v ∈ x, f v = none) :
    change? x.isSome.toNat (x.getD 0) f = none := by
  obtain ⟨v, rfl, hrange⟩ := h
  exact change?_none (.inr (.inr ⟨rfl, hrange⟩))

end change

/-- The window and the silence limit of a SET_LINK, where they are given, are in their ranges (R145, step 2). -/
def LinkRanges (window limit : Option Nat) : Prop :=
  (∀ w ∈ window, 1 ≤ w ∧ w ≤ 8) ∧ ∀ n ∈ limit, n = 0 ∨ (10 ≤ n ∧ n ≤ 10000)

/-- What the host sends for three changes (R145, Table 61). -/
def setLinkBytes (rate : Option Rate) (window limit : Option Nat) : List Byte :=
  flagByte rate.isSome ++ le32 ((rate.map Rate.baud).getD 0) ++ flagByte window.isSome ++ le8 (window.getD 0) ++
    flagByte limit.isSome ++ le16 (limit.getD 0)

/-! ## What SET_LINK does with the changes -/

section takeSetLink

variable {p : List Byte} {s : State} {rate : Option Rate} {window limit : Option Nat}

theorem takeSetLink_badArg (hlen : p.length = 10)
    (h : change? (u8 p 0) (u32 p 1) rate? = none ∨ change? (u8 p 5) (u8 p 6) (within? 1 8) = none ∨
      change? (u8 p 7) (u16 p 8) silenceLimit? = none) : takeSetLink p s = refuse .badArg s := by
  rw [takeSetLink, if_neg (not_not.mpr hlen)]
  split
  · next hrate hwindow hlimit =>
    rw [hrate, hwindow, hlimit] at h
    simp at h
  · rfl

theorem takeSetLink_inArg (hlen : p.length = 10) (hrate : change? (u8 p 0) (u32 p 1) rate? = some rate)
    (hwindow : change? (u8 p 5) (u8 p 6) (within? 1 8) = some window)
    (hlimit : change? (u8 p 7) (u16 p 8) silenceLimit? = some limit) :
    takeSetLink p s = if s.windowTooSmall window then refuse .state s
      else ({ status := if rate.isSome then .pending else .ok
              payload := (s.changeLink rate window limit).linkPayload
              tied := if rate.isSome then .rate else .none }, s.changeLink rate window limit) := by
  rw [takeSetLink, if_neg (not_not.mpr hlen), hrate, hwindow, hlimit]

end takeSetLink

theorem State.windowTooSmall_iff (s : State) (window : Option Nat) :
    s.windowTooSmall window = true ↔ ∃ w ∈ window, w < s.reports.sentCount := by
  cases window with
  | none => simp [State.windowTooSmall]
  | some w => simp [State.windowTooSmall]

/-- The three changes written out: a new rate unties the earlier one's response (R132), a new limit restarts or stops
the timer (R133). -/
theorem State.changeLink_eq (rate : Option Rate) (window limit : Option Nat) (s : State) :
    s.changeLink rate window limit = { s with
      reports := { s.reports with window := window.getD s.reports.window }
      link := { s.link with
        pendingRate := rate.or s.link.pendingRate
        silenceLimit := limit.getD s.link.silenceLimit
        silenceTimer := match limit with
          | none => s.link.silenceTimer
          | some n => if n = 0 then none else some 0
        holding := if rate.isSome then s.link.holding.map Response.untieRate else s.link.holding
        tx := if rate.isSome then s.link.tx.untieRate else s.link.tx } } := by
  cases rate <;> cases window <;> cases limit <;> rfl

theorem State.linkPayload_bytes (s : State) :
    s.linkPayload = le32 s.link.rate.baud ++
      (match s.link.pendingRate with
        | none => [0, 0, 0, 0, 0]
        | some r => [1] ++ le32 r.baud) ++
      le8 s.reports.window ++ le16 s.link.silenceLimit := by
  rw [State.linkPayload, pendingRateBytes_eq]

/-- The fields out of range, as the payload holds them (R145, step 2). -/
theorem takeSetLink_outOfRange {p : List Byte} (hlen : p.length = 10)
    (h : 1 < u8 p 0 ∨ 1 < u8 p 5 ∨ 1 < u8 p 7 ∨
      (u8 p 0 = 0 ∧ u32 p 1 ≠ 0) ∨ (u8 p 5 = 0 ∧ u8 p 6 ≠ 0) ∨ (u8 p 7 = 0 ∧ u16 p 8 ≠ 0) ∨
      (u8 p 0 = 1 ∧ u32 p 1 ≠ 115200 ∧ u32 p 1 ≠ 230400 ∧ u32 p 1 ≠ 460800 ∧ u32 p 1 ≠ 921600)) (s : State) :
    takeSetLink p s = refuse .badArg s := by
  refine takeSetLink_badArg hlen ?_
  rcases h with hrate | hwindow | hlimit | hrate | hwindow | hlimit | ⟨hmark, hrange⟩
  · exact .inl (change?_none (.inl hrate))
  · exact .inr (.inl (change?_none (.inl hwindow)))
  · exact .inr (.inr (change?_none (.inl hlimit)))
  · exact .inl (change?_none (.inr (.inl hrate)))
  · exact .inr (.inl (change?_none (.inr (.inl hwindow))))
  · exact .inr (.inr (change?_none (.inr (.inl hlimit))))
  · exact .inl (change?_none (.inr (.inr ⟨hmark, rate?_none hrange⟩)))

/-! ## The payload of three changes -/

section setLinkBytes

variable {rate : Option Rate} {window limit : Option Nat}

theorem setLinkBytes_fields (hw : ∀ w ∈ window, w < 256) (hn : ∀ n ∈ limit, n < 65536) :
    let p := setLinkBytes rate window limit
    p.length = 10 ∧ u8 p 0 = rate.isSome.toNat ∧ u32 p 1 = (rate.map Rate.baud).getD 0 ∧
      u8 p 5 = window.isSome.toNat ∧ u8 p 6 = window.getD 0 ∧ u8 p 7 = limit.isSome.toNat ∧
      u16 p 8 = limit.getD 0 := by
  refine setLink_fields ?_ ?_ ?_
  · cases rate with
    | none => decide
    | some r => exact r.baud_lt
  · cases window with
    | none => decide
    | some w => exact hw w rfl
  · cases limit with
    | none => decide
    | some n => exact hn n rfl

theorem takeSetLink_bytes_badArg (hw : ∀ w ∈ window, w < 256) (hn : ∀ n ∈ limit, n < 65536)
    (hbad : ¬LinkRanges window limit) (s : State) :
    takeSetLink (setLinkBytes rate window limit) s = refuse .badArg s := by
  obtain ⟨hlen, -, -, h5, h6, h7, h8⟩ := setLinkBytes_fields (rate := rate) hw hn
  refine takeSetLink_badArg hlen ?_
  rw [h5, h6, h7, h8]
  rcases not_and_or.mp hbad with hwindow | hlimit
  · simp only [not_forall] at hwindow
    obtain ⟨w, hmem, hrange⟩ := hwindow
    exact .inr (.inl (change?_number_none ⟨w, hmem, within?_none hrange⟩))
  · simp only [not_forall] at hlimit
    obtain ⟨n, hmem, hrange⟩ := hlimit
    exact .inr (.inr (change?_number_none ⟨n, hmem, silenceLimit?_none hrange⟩))

theorem takeSetLink_bytes_inArg (hw : ∀ w ∈ window, w < 256) (hn : ∀ n ∈ limit, n < 65536)
    (hin : LinkRanges window limit) (s : State) :
    takeSetLink (setLinkBytes rate window limit) s = if s.windowTooSmall window then refuse .state s
      else ({ status := if rate.isSome then .pending else .ok
              payload := (s.changeLink rate window limit).linkPayload
              tied := if rate.isSome then .rate else .none }, s.changeLink rate window limit) := by
  obtain ⟨hlen, h0, h1, h5, h6, h7, h8⟩ := setLinkBytes_fields (rate := rate) hw hn
  obtain ⟨hwindow, hlimit⟩ := hin
  refine takeSetLink_inArg hlen ?_ ?_ ?_
  · rw [h0, h1]
    exact change?_spelt Rate.baud fun r _ => rate?_baud r
  · rw [h5, h6]
    exact change?_number fun w hmem => within?_of (hwindow w hmem)
  · rw [h7, h8]
    exact change?_number fun n hmem => silenceLimit?_of (hlimit n hmem)

end setLinkBytes

/-- Settles O9: the changes are read back from the payload; only their ranges and the sent count refuse them. -/
theorem setLinkEffect : Obligations.SetLinkEffect := by
  refine ⟨fun s seq rate window limit hw hn => ?_, fun s seq p hlen hready hout =>
    refused_of_perform (k := .setLink) hready (takeSetLink_outOfRange hlen hout _)⟩
  intro c inRange u hready
  refine ⟨fun hbad => ?_, fun hin hsmall => ?_, fun hin hfits => ?_⟩
  · exact refused_of_perform (k := .setLink) hready (takeSetLink_bytes_badArg hw hn hbad _)
  · have htake := takeSetLink_bytes_inArg (rate := rate) hw hn hin s.heard
    rw [if_pos ((s.heard.windowTooSmall_iff window).mpr hsmall)] at htake
    exact refused_of_perform (k := .setLink) hready htake
  · have hlarge : ¬s.heard.windowTooSmall window = true := by
      rw [State.windowTooSmall_iff]
      exact fun ⟨w, hmem, hlt⟩ => Nat.not_lt.mpr (hfits w hmem) hlt
    have htake := takeSetLink_bytes_inArg (rate := rate) hw hn hin s.heard
    rw [if_neg hlarge, State.linkPayload_bytes, State.changeLink_eq] at htake
    exact answered_of_perform .setLink seq _ s _ _ hready htake

end Sys2Proof.Machine

namespace Sys2Proof.Machine

/-! # O56: the report queue

Every block changes the queue in one way only, by offering it reports (`OnlyOffers`). Beside that a record is sent, records
are acknowledged, the sent flags are cleared, the window is set, and a reset empties the queue. Laws 7 and 8 speak of three
columns of the records, their numbers, their sent flags and which of them are OVERFLOW (`ReportQueue.Sound`), and each
of these operations does one thing to each column. -/

/-! ## The laws by columns -/

/-- The numbers of `n` consecutive records, the next number being `next` (R148). -/
def numbersBefore (next : Byte) (n : Nat) : List Byte := (List.range n).map fun i => next - BitVec.ofNat 8 (n - i)

theorem numbersBefore_succ (next : Byte) (n : Nat) :
    numbersBefore (next + 1) (n + 1) = numbersBefore next n ++ [next] := by
  have hnext : next + 1 - BitVec.ofNat 8 1 = next := BitVec.add_sub_cancel next 1
  rw [numbersBefore, List.range_succ, List.map_append, List.map_singleton, Nat.add_sub_cancel_left, hnext]
  refine congrArg (· ++ [next]) (List.map_congr_left fun i hi => ?_)
  have hplace : n + 1 - i = n - i + 1 := Nat.succ_sub (List.mem_range.mp hi).le
  rw [hplace, BitVec.ofNat_add]
  bv_omega

theorem numbersBefore_drop (next : Byte) (n m : Nat) : (numbersBefore next n).drop m = numbersBefore next (n - m) := by
  refine List.ext_getElem (by simp [numbersBefore]) fun i _ _ => ?_
  simp [numbersBefore, Nat.sub_sub]

/-- A column of sent flags: the sent records are the oldest (R151). -/
def sentFirst (sent unsent : Nat) : List Bool := List.replicate sent true ++ List.replicate unsent false

theorem sentFirst_drop (sent unsent m : Nat) :
    (sentFirst sent unsent).drop m = sentFirst (sent - m) (unsent - (m - sent)) := by
  simp [sentFirst, List.drop_append]

/-- `ReportQueue.Inv` column by column. -/
structure ReportQueue.Sound (q : ReportQueue) : Prop where
  length : q.records.length ≤ 32
  full : q.records.length = 32 → (q.records.map Record.isOverflow).getLast? = some true
  numbers : q.records.map Record.number = numbersBefore q.next q.records.length
  sent : ∃ sent unsent, q.records.map Record.sent = sentFirst sent unsent
  sentCount : q.sentCount ≤ q.window
  window : 1 ≤ q.window ∧ q.window ≤ 8

theorem ReportQueue.sentCount_eq_count (q : ReportQueue) : q.sentCount = (q.records.map Record.sent).count true := by
  have hflag : (· == true) ∘ Record.sent = fun r : Record => r.sent := funext fun r => beq_true r.sent
  rw [ReportQueue.sentCount, List.count, List.countP_map, hflag, List.countP_eq_length_filter]

theorem ReportQueue.sentCount_of_sentFirst {q : ReportQueue} {sent unsent : Nat}
    (h : q.records.map Record.sent = sentFirst sent unsent) : q.sentCount = sent := by
  rw [q.sentCount_eq_count, h, sentFirst, List.count_append, List.count_replicate_self, List.count_replicate]
  rfl

theorem ReportQueue.sound_iff (q : ReportQueue) : q.Sound ↔ q.Inv := by
  have hlast : (q.records.map Record.isOverflow).getLast? = some true ↔
      ∃ r ∈ q.records.getLast?, r.isOverflow = true := by
    rw [List.getLast?_map, Option.map_eq_some_iff]
    rfl
  constructor
  · rintro ⟨length, full, numbers, ⟨sent, unsent, hsent⟩, hwindow, range⟩
    refine ⟨length, fun h => hlast.mp (full h), fun i h => ?_, fun i h => ?_, hwindow, range⟩
    · have hi := List.getElem_of_eq numbers (i := i) (by simpa using h)
      simpa [numbersBefore] using hi
    · have hi := List.getElem_of_eq hsent (i := i) (by simpa using h)
      rw [ReportQueue.sentCount_of_sentFirst hsent]
      simpa [sentFirst, List.getElem_append] using hi
  · rintro ⟨length, full, numbers, sent, hwindow, range⟩
    have hle : q.sentCount ≤ q.records.length := List.length_filter_le _ _
    refine ⟨length, fun h => hlast.mpr (full h), ?_, ⟨q.sentCount, q.records.length - q.sentCount, ?_⟩, hwindow, range⟩
    · refine List.ext_getElem (by simp [numbersBefore]) fun i hi _ => ?_
      simpa [numbersBefore] using numbers i (by simpa using hi)
    · refine List.ext_getElem (by simp [sentFirst, hle]) fun i hi _ => ?_
      simpa [sentFirst, List.getElem_append] using sent i (by simpa using hi)

/-! ## The operations on the queue -/

namespace ReportQueue.Sound

variable {q : ReportQueue}

/-- A record at the tail: with it the queue is below 32 records, or it is the OVERFLOW record that fills it. -/
theorem append (h : q.Sound) {r : Report} (hroom : q.records.length ≤ 30 ∨
    (q.records.length = 31 ∧ ∃ n, r = .overflow n)) : (q.append r).Sound := by
  obtain ⟨sent, unsent, hsent⟩ := h.sent
  have hafter : (q.append r).records.map Record.sent = sentFirst sent (unsent + 1) := by
    rw [ReportQueue.append, List.map_append, hsent, sentFirst, sentFirst, List.replicate_succ', List.append_assoc]
    rfl
  have hlen : (q.append r).records.length = q.records.length + 1 := List.length_append
  refine ⟨by omega, fun hfull => ?_, ?_, ⟨sent, unsent + 1, hafter⟩, ?_, h.window⟩
  · obtain ⟨n, rfl⟩ := (hroom.resolve_left (by omega)).2
    simp [ReportQueue.append, Record.isOverflow]
  · rw [hlen, ReportQueue.append, List.map_append, h.numbers]
    exact (numbersBefore_succ q.next q.records.length).symm
  · rw [ReportQueue.sentCount_of_sentFirst hafter, ← ReportQueue.sentCount_of_sentFirst hsent]
    exact h.sentCount

/-- The same numbers and the same OVERFLOW records, with a column of sent flags that the window allows. -/
theorem flagged (h : q.Sound) {records : List Record} (hn : records.map Record.number = q.records.map Record.number)
    (ho : records.map Record.isOverflow = q.records.map Record.isOverflow) {sent unsent : Nat}
    (hs : records.map Record.sent = sentFirst sent unsent) (hw : sent ≤ q.window) :
    { q with records := records }.Sound := by
  have hlen : records.length = q.records.length := by simpa using congrArg List.length hn
  refine ⟨hlen.trans_le h.length, fun hfull => ?_, ?_, ⟨sent, unsent, hs⟩, ?_, h.window⟩
  · exact (congrArg List.getLast? ho).trans (h.full (hlen.symm.trans hfull))
  · exact hn.trans (h.numbers.trans (congrArg (numbersBefore q.next) hlen.symm))
  · exact (ReportQueue.sentCount_of_sentFirst (q := { q with records := records }) hs).trans_le hw

end ReportQueue.Sound

theorem Record.countDropped_columns (r : Record) : r.countDropped.number = r.number ∧ r.countDropped.sent = r.sent ∧
    r.countDropped.isOverflow = r.isOverflow := by
  obtain ⟨number, report, sent⟩ := r
  cases report <;> exact ⟨rfl, rfl, rfl⟩

/-- What an offer does (R149, R150): a record at the tail, a report counted into OVERFLOW, or nothing. -/
theorem ReportQueue.offer_cases (r : Report) (q : ReportQueue) :
    (q.records.length ≤ 30 ∧ q.offer r = q.append r) ∨
    (∃ older newest, q.records = older ++ [newest] ∧
      q.offer r = { q with records := older ++ [newest.countDropped] }) ∨
    (q.records.length = 31 ∧ q.offer r = q.append (.overflow 1)) ∨ q.offer r = q := by
  unfold ReportQueue.offer
  split
  · next hroom => exact .inl ⟨hroom, rfl⟩
  · refine .inr ?_
    split
    · exact .inr (.inr rfl)
    · next newest hnewest =>
      split
      · exact .inl ⟨q.records.dropLast, newest, (List.dropLast_append_getLast? newest hnewest).symm, rfl⟩
      · split
        · next hlen => exact .inr (.inl ⟨hlen, rfl⟩)
        · exact .inr (.inr rfl)

namespace ReportQueue.Sound

variable {q : ReportQueue}

theorem offer (h : q.Sound) (r : Report) : (q.offer r).Sound := by
  rcases q.offer_cases r with ⟨hroom, heq⟩ | ⟨older, newest, hrecords, heq⟩ | ⟨hlen, heq⟩ | heq <;> rw [heq]
  · exact h.append (.inl hroom)
  · obtain ⟨hn, hs, ho⟩ := newest.countDropped_columns
    obtain ⟨sent, unsent, hsent⟩ := h.sent
    have hflags : (older ++ [newest.countDropped]).map Record.sent = sentFirst sent unsent := by
      simpa [hrecords, hs] using hsent
    exact h.flagged (by simp [hrecords, hn]) (by simp [hrecords, ho]) hflags
      ((ReportQueue.sentCount_of_sentFirst hsent).symm.trans_le h.sentCount)
  · exact h.append (.inr ⟨hlen, 1, rfl⟩)
  · exact h

theorem offers (h : q.Sound) (rs : List Report) : (rs.foldl (fun q r => q.offer r) q).Sound := by
  induction rs generalizing q with
  | nil => exact h
  | cons r rs ih => exact ih (h.offer r)

/-- Acknowledged records leave at the front (R152). -/
theorem drop (h : q.Sound) (n : Nat) : { q with records := q.records.drop n }.Sound := by
  obtain ⟨sent, unsent, hsent⟩ := h.sent
  have hafter : (q.records.drop n).map Record.sent = sentFirst (sent - n) (unsent - (n - sent)) := by
    rw [List.map_drop, hsent, sentFirst_drop]
  have hlen : (q.records.drop n).length = q.records.length - n := List.length_drop
  have hlength := h.length
  refine ⟨hlen.trans_le ((Nat.sub_le _ n).trans hlength), fun hfull => ?_, ?_, ⟨_, _, hafter⟩, ?_, h.window⟩
  · obtain rfl : n = 0 := by dsimp only at hfull; omega
    exact h.full hfull
  · dsimp only
    rw [List.map_drop, h.numbers, numbersBefore_drop, hlen]
  · have hcount := h.sentCount
    rw [ReportQueue.sentCount_of_sentFirst hsent] at hcount
    rw [ReportQueue.sentCount_of_sentFirst (q := { q with records := q.records.drop n }) hafter]
    exact (Nat.sub_le sent n).trans hcount

/-- No record is sent after a RPT_RESEND or a link break (R153, R154). -/
theorem unsendAll (h : q.Sound) : q.unsendAll.Sound := by
  have hflags : q.unsendAll.records.map Record.sent = sentFirst 0 q.records.length := by
    rw [ReportQueue.unsendAll, List.map_map]
    exact List.map_const'
  exact h.flagged (by simp [Function.comp_def]) (by simp [Function.comp_def, Record.isOverflow]) hflags (Nat.zero_le _)

/-- The oldest unsent record becomes sent, where the window has room for one more (R151). -/
theorem send (h : q.Sound) (hroom : q.sentCount < q.window) {r : Record} {records : List Record}
    (hsend : sendOldest q.records = some (r, records)) : { q with records := records }.Sound := by
  obtain ⟨sent, unsent, hsent⟩ := h.sent
  have hcount := ReportQueue.sentCount_of_sentFirst hsent
  obtain ⟨older, newer, hrecords, holder, hnewer⟩ := List.map_eq_append_iff.mp hsent
  have hall : ∀ r ∈ older, r.sent = true := fun r hr =>
    List.eq_of_mem_replicate (holder ▸ List.mem_map_of_mem hr)
  cases newer with
  | nil =>
    have hnone : q.records.any (fun r => !r.sent) = false := by simpa [hrecords] using hall
    rw [sendOldest_eq_none _ hnone] at hsend
    cases hsend
  | cons x newer =>
    obtain ⟨k, rfl⟩ : ∃ k, unsent = k + 1 := Nat.exists_eq_add_one.mpr (Nat.pos_of_ne_zero fun hz => by
      rw [hz] at hnewer
      cases hnewer)
    rw [List.map_cons, List.replicate_succ, List.cons.injEq] at hnewer
    obtain ⟨hx, hrest⟩ := hnewer
    rw [hrecords, sendOldest_of_sent hall hx] at hsend
    obtain ⟨-, rfl⟩ := Prod.mk.inj (Option.some.inj hsend)
    have hafter : (older ++ { x with sent := true } :: newer).map Record.sent = sentFirst (sent + 1) k := by
      rw [List.map_append, List.map_cons, holder, hrest, sentFirst, List.replicate_succ', List.append_assoc]
      rfl
    exact h.flagged (by simp [hrecords]) (by simp [hrecords, Record.isOverflow]) hafter (hcount.symm.trans_lt hroom)

end ReportQueue.Sound

/-! ## Blocks that only offer reports -/

/-- The report queue after some reports are offered to it, one after another. -/
def OnlyOffers (s t : State) : Prop := ∃ rs : List Report, t.reports = rs.foldl (fun q r => q.offer r) s.reports

namespace OnlyOffers

variable {s t u : State}

theorem of_eq (h : t.reports = s.reports) : OnlyOffers s t := ⟨[], h⟩

theorem refl (s : State) : OnlyOffers s s := of_eq rfl

theorem trans (h : OnlyOffers s t) (g : OnlyOffers t u) : OnlyOffers s u := by
  obtain ⟨rs, hrs⟩ := h
  obtain ⟨rs', hrs'⟩ := g
  exact ⟨rs ++ rs', by rw [hrs', hrs, List.foldl_append]⟩

theorem offer (r : Report) (s : State) : OnlyOffers s (s.offer r) := ⟨[r], rfl⟩

theorem offerIf (n : Option Byte) (r : Byte → Report) (s : State) : OnlyOffers s (s.offerIf n r) := by
  cases n with
  | none => exact .refl s
  | some seq => exact .offer _ s

theorem forEach {α : Type} (xs : List α) (f : α → State → State) (h : ∀ x s, OnlyOffers s (f x s)) (s : State) :
    OnlyOffers s (forEach xs f s) :=
  forEach_induction (OnlyOffers s) xs f (fun x _ t ht => ht.trans (h x t)) s (refl s)

theorem forEachInAnyOrder {α : Type} (xs : List α) (f : α → State → State) (h : ∀ x s, OnlyOffers s (f x s))
    (s : State) : OnlyOffers s (forEachInAnyOrder xs f s) :=
  forEachInAnyOrder_induction (OnlyOffers s) xs f (fun _ _ ht => ht.trans (of_eq rfl))
    (fun x _ t ht => ht.trans (h x t)) s (refl s)

theorem of_actedOn (h : s.ActedOn t) : OnlyOffers s t := by
  obtain ⟨_, _, _, rfl⟩ := h
  exact of_eq rfl

theorem sound (h : OnlyOffers s t) (hs : s.reports.Sound) : t.reports.Sound := by
  obtain ⟨rs, hrs⟩ := h
  exact hrs ▸ hs.offers rs

end OnlyOffers

/-! ### The pool, the points and the pairs -/

theorem withdraw_reports (c : Fin 16) (s : State) : (s.withdraw c).reports = s.reports := by
  obtain ⟨_, h⟩ := s.withdraw_frame c
  rw [h]

theorem restartPair_reports (k : Fin 8) (s : State) : (s.restartPair k).reports = s.reports := by
  obtain ⟨_, h⟩ := s.restartPair_frame k
  rw [h]

theorem promote_reports (c : Fin 16) (s : State) : (s.promote c).reports = s.reports := by
  unfold State.promote
  split <;> rfl

theorem completeHead_reports (c : Fin 16) (s : State) : (s.completeHead c).reports = s.reports := by
  unfold State.completeHead
  split
  · rfl
  · split <;> rfl

theorem supersedeReplacement_offers (c : Fin 16) (s : State) : OnlyOffers s (s.supersedeReplacement c) := by
  have hfreed : OnlyOffers s (s.freeReplacement c) := by
    unfold State.freeReplacement
    split <;> exact .of_eq rfl
  unfold State.supersedeReplacement
  split
  · exact .refl s
  · exact hfreed.trans (.offerIf _ _ _)

theorem flushChannel_offers (c : Fin 16) (s : State) : OnlyOffers s (s.flushChannel c) := by
  rw [State.flushChannel_eq]
  refine OnlyOffers.trans (.of_eq ?_) (.offerIf _ _ _)
  exact withdraw_reports c s

theorem arrive_offers (c : Fin 16) (p : Fin 8) (s : State) : OnlyOffers s (s.arrive c p) := by
  unfold State.arrive
  split
  · rw [State.completeRelease_eq]
    exact OnlyOffers.trans (.of_eq rfl) (.offer _ _)
  · exact .of_eq rfl

theorem expireGathering_offers (p : Fin 8) (s : State) : OnlyOffers s (s.expireGathering p) := by
  rw [State.expireGathering_eq]
  exact OnlyOffers.trans (.of_eq rfl) (.offer _ _)

theorem configPair_offers (k : Fin 8) (enable : Bool) (d : Nat) (s : State) :
    OnlyOffers s (s.configPair k enable d) := by
  unfold State.configPair
  split
  · refine OnlyOffers.trans (.of_eq ?_) (.of_actedOn (coverRetested_actedOn k _))
    exact restartPair_reports k _
  · exact .of_eq rfl
  · exact OnlyOffers.trans (.of_eq rfl) (.of_actedOn (coverRetested_actedOn k _))
  · exact .of_eq rfl

/-! ### The boundary (chapter 3) -/

theorem stageLevel_offers (c : Fin 16) (s : State) : OnlyOffers s (s.stageLevel c) := by
  unfold State.stageLevel
  split
  · exact .refl s
  · exact OnlyOffers.trans (.of_eq rfl) (.offerIf _ _ _)

theorem stageReplacement_offers (c : Fin 16) (s : State) : OnlyOffers s (s.stageReplacement c) := by
  unfold State.stageReplacement
  split
  · exact .refl s
  · refine OnlyOffers.trans (.of_eq ?_) (.offerIf _ _ _)
    exact (promote_reports c _).trans (withdraw_reports c s)

/-- A head completed after its report, if it has one, and the heads that follow. -/
theorem startHeads_offers (c : Fin 16) (n : Nat) (s : State) : OnlyOffers s (State.startHeads c n s) := by
  have ends (u : State) : OnlyOffers u (u.endProgram c) := (OnlyOffers.offer _ u).trans (.of_eq rfl)
  have completes (u : State) : OnlyOffers u (u.completeHead c) := .of_eq (completeHead_reports c u)
  induction n generalizing s with
  | zero =>
    unfold State.startHeads
    split
    · exact ends s
    · exact .refl s
  | succ n ih =>
    unfold State.startHeads
    split
    · exact ends s
    · exact OnlyOffers.trans (completes (s.modChan c _)) (ih _)
    · exact (OnlyOffers.offer _ s).trans ((completes _).trans (ih _))
    · exact .of_eq rfl
    · exact .of_eq rfl
    · split
      · exact arrive_offers c _ s
      · exact (OnlyOffers.offer _ s).trans ((completes _).trans (ih _))

theorem stageAdvance_offers (c : Fin 16) (s : State) : OnlyOffers s (s.stageAdvance c) := by
  unfold State.stageAdvance
  dsimp only
  split
  · exact .refl s
  · split
    · exact startHeads_offers c _ s
    · exact .of_eq rfl
    · exact (OnlyOffers.of_eq (completeHead_reports c s)).trans (startHeads_offers c _ _)
    · exact .refl s

theorem stageUnforce_reports (c : Fin 16) (s : State) : (s.stageUnforce c).reports = s.reports := by
  unfold State.stageUnforce
  split <;> rfl

theorem boundaryPair_reports (c : Fin 16) (starts x : Bool) (s before : State) :
    (s.boundaryPair c starts x before).reports = s.reports := by
  unfold State.boundaryPair
  dsimp only
  split
  · rfl
  · split
    · exact restartPair_reports _ s
    · rfl

theorem handleBoundary_offers (starts : Bool) (c : Fin 16) (s old : State) :
    OnlyOffers s (s.handleBoundary starts c old) := by
  have hfour : OnlyOffers s (s.fourStages c) :=
    ((stageLevel_offers c s).trans (stageReplacement_offers c _)).trans
      ((OnlyOffers.of_eq rfl).trans (stageAdvance_offers c (State.stageControl c _)))
  rw [State.handleBoundary_eq]
  exact hfour.trans (.of_eq ((boundaryPair_reports c _ _ _ _).trans (stageUnforce_reports c _)))

theorem boundary_offers (starts : Bool) (b : Fin 4) (s : State) : OnlyOffers s (s.boundary starts b) := by
  refine OnlyOffers.trans (.of_eq rfl) (.forEachInAnyOrder _ (State.takeBoundaryPart b starts s) (fun part u => ?_)
    (s.modTb b fun tb => tb.begin starts))
  cases part with
  | applied seq => exact .offer _ u
  | channel c => exact handleBoundary_offers starts c u s

theorem tickTimebase_offers (b : Fin 4) (s : State) : OnlyOffers s (s.tickTimebase b) := by
  unfold State.tickTimebase
  split
  · exact boundary_offers false b s
  · exact .of_eq rfl

theorem startTbs_offers (set : List (Fin 4)) (s : State) : OnlyOffers s (s.startTbs set) :=
  OnlyOffers.trans (.of_eq rfl) (.forEachInAnyOrder set _ (boundary_offers true)
    (s.mapTbs fun b tb => if set.contains b then tb.start else tb))

/-! ### Faults and speed units (chapters 7 and 8) -/

theorem activateFault_offers (f : Fin 4) (s : State) : OnlyOffers s (s.activateFault f) := by
  have h := State.activateFault_reports f s
  split at h
  · exact .of_eq h
  · exact ⟨[_], h⟩

theorem sampleFaults_offers (flt : Vector Bool 2) (s : State) : OnlyOffers s (s.sampleFaults flt) :=
  OnlyOffers.trans (.of_eq rfl) (.forEachInAnyOrder _ _ activateFault_offers
    ((s.modFault 0 fun src => src.sample flt[0]).modFault 1 fun src => src.sample flt[1]))

theorem settleSpeed_reports (s : State) : s.settleSpeed.reports = s.reports := by
  obtain ⟨_, h⟩ := s.settleSpeed_frame
  rw [h]

theorem expireWindow_offers (u : Fin 4) (s : State) : OnlyOffers s (s.expireWindow u) := by
  have heffect (e : WindowEffect) (v : State) : OnlyOffers v (v.windowEffect e) := by
    cases e with
    | report r => exact .offer r v
    | raiseSpeed => exact activateFault_offers speed v
  have hjudged : OnlyOffers s (s.modUnit u fun _ => s.units[u].closeWindow.judge) := .of_eq rfl
  exact (hjudged.trans (.forEachInAnyOrder _ _ heffect _)).trans (.of_eq (settleSpeed_reports _))

theorem clearFault_offers (f : Fin 4) (s : State) : OnlyOffers s (s.clearFault f) := by
  rw [State.clearFault_eq]
  exact OnlyOffers.trans (t := s.unlatchFault f) (OnlyOffers.trans (.of_eq rfl) (.offer _ _)) (.of_eq rfl)

/-! ## Requests

A request is refused or takes effect, and all but three of them only offer reports. -/

/-- `OnlyOffers` of a request's effect, which its answer does not concern. -/
def RequestOffers (s : State) (e : Reply × State) : Prop := OnlyOffers s e.2

namespace RequestOffers

variable {s t : State}

theorem refuse (st : Status) (s : State) : RequestOffers s (refuse st s) := .refl s

theorem accept {st : Status} {payload : List Byte} (h : OnlyOffers s t) : RequestOffers s (accept st payload t) := h

theorem unchanged {st : Status} {payload : List Byte} : RequestOffers s (Machine.accept st payload s) := .refl s

/-- A request refused by a test, or else by what follows. -/
theorem guard {c : Prop} [Decidable c] {st : Status} {e : Reply × State} (h : RequestOffers s e) :
    RequestOffers s (if c then Machine.refuse st s else e) := by
  split
  · exact refuse st s
  · exact h

theorem checked {tests : List (Bool × Status)} {e : Reply × State} (h : RequestOffers s e) :
    RequestOffers s (checked tests s e) := by
  rcases checked_cases tests s e with ⟨st, hr⟩ | hr
  · rw [hr]; exact refuse st s
  · rw [hr]; exact h

theorem forSet {p : List Byte} {bad : Channel → Bool} {effect : ChSet → Reply × State}
    (h : ∀ set, RequestOffers s (effect set)) : RequestOffers s (forSet p s bad effect) := .guard (.checked (h _))

end RequestOffers

theorem takeGetInfo_offers (p : List Byte) (s : State) : RequestOffers s (takeGetInfo p s) := .guard .unchanged

theorem takeResetDevice_offers (p : List Byte) (s : State) : RequestOffers s (takeResetDevice p s) := .guard (.refl s)

theorem takeOutQuery_offers (p : List Byte) (s : State) : RequestOffers s (takeOutQuery p s) := .guard .unchanged

theorem takeGetStatus_offers (p : List Byte) (s : State) : RequestOffers s (takeGetStatus p s) := by
  refine .guard ?_
  split
  · exact .refuse _ s
  · refine .accept (.of_eq ?_)
    split <;> rfl

theorem dropAndSet_offers (b : Fin 4) (f : Timebase → Timebase) (s : State) :
    OnlyOffers s ((s.dropPendingPeriod b).modTb b f) :=
  OnlyOffers.trans (t := s.dropPendingPeriod b) (OnlyOffers.trans (.of_eq rfl) (.offerIf _ _ _)) (.of_eq rfl)

theorem takeTbConfig_offers (p : List Byte) (s : State) : RequestOffers s (takeTbConfig p s) := by
  refine .guard ?_
  split
  · exact .guard (.accept (dropAndSet_offers _ _ s))
  · exact .refuse _ s

theorem takeTbStart_offers (p : List Byte) (s : State) : RequestOffers s (takeTbStart p s) := by
  refine .guard ?_
  split
  · exact .refuse _ s
  · exact .guard (.accept (startTbs_offers _ s))

theorem takeTbStop_offers (p : List Byte) (s : State) : RequestOffers s (takeTbStop p s) := by
  refine .guard ?_
  split
  · exact .refuse _ s
  · exact .accept (.of_eq rfl)

theorem takeTbPeriod_offers (seq : Byte) (p : List Byte) (s : State) : RequestOffers s (takeTbPeriod seq p s) := by
  refine .guard ?_
  split
  · split
    · exact .accept (dropAndSet_offers _ _ s)
    · exact .accept (dropAndSet_offers _ _ s)
    · split
      · exact .accept (dropAndSet_offers _ _ s)
      · exact .accept ((dropAndSet_offers _ _ s).trans (.offer _ _))
  · exact .refuse _ s

theorem takeTbQuery_offers (p : List Byte) (s : State) : RequestOffers s (takeTbQuery p s) := by
  refine .guard ?_
  split
  · exact .unchanged
  · exact .refuse _ s

theorem takeChQuota_offers (p : List Byte) (s : State) : RequestOffers s (takeChQuota p s) :=
  .guard (.checked (.accept (.of_eq (State.mapChans_reports _ s))))

theorem takeSegAppend_offers (p : List Byte) (s : State) : RequestOffers s (takeSegAppend p s) := by
  refine .guard ?_
  split
  · exact .checked (.accept (.of_eq rfl))
  · exact .refuse _ s

theorem takeSegReplace_offers (seq : Byte) (p : List Byte) (s : State) :
    RequestOffers s (takeSegReplace seq p s) := by
  refine .guard ?_
  split
  · exact .checked (.accept ((supersedeReplacement_offers _ s).trans (.of_eq rfl)))
  · exact .refuse _ s

theorem takeChConfig_offers (p : List Byte) (s : State) : RequestOffers s (takeChConfig p s) := by
  refine .guard ?_
  split
  · next c b mode safe _ _ _ _ =>
    obtain ⟨_, _, hframe⟩ := State.configAndRebind_frame c b mode safe s
    have hreports : ((s.configChannel c b mode safe).rebindPair c s).reports = s.reports := by rw [hframe]
    exact .checked (.accept (.of_eq hreports))
  · exact .refuse _ s

theorem takeChLevel_offers (seq : Byte) (p : List Byte) (s : State) : RequestOffers s (takeChLevel seq p s) := by
  refine .guard ?_
  split
  · exact .checked (.accept (OnlyOffers.trans (.of_eq rfl) (.offerIf _ _ _)))
  · exact .refuse _ s

theorem takeChStart_offers (p : List Byte) (s : State) : RequestOffers s (takeChStart p s) :=
  .forSet fun _ => .accept (.of_eq (State.mapChans_reports _ s))

theorem takeChPause_offers (p : List Byte) (s : State) : RequestOffers s (takeChPause p s) :=
  .forSet fun _ => .accept (.of_eq (State.mapChans_reports _ s))

theorem takeChResume_offers (p : List Byte) (s : State) : RequestOffers s (takeChResume p s) :=
  .forSet fun _ => .accept (.of_eq (State.mapChans_reports _ s))

theorem takeChFlush_offers (p : List Byte) (s : State) : RequestOffers s (takeChFlush p s) :=
  .forSet fun _ => .accept (.forEachInAnyOrder _ _ flushChannel_offers s)

theorem takeChQuery_offers (p : List Byte) (s : State) : RequestOffers s (takeChQuery p s) := by
  refine .guard ?_
  split
  · exact .unchanged
  · exact .refuse _ s

theorem takeRpDefine_offers (p : List Byte) (s : State) : RequestOffers s (takeRpDefine p s) := by
  refine .guard ?_
  split
  · exact .guard (.accept (.of_eq rfl))
  · exact .refuse _ s

theorem takeRpQuery_offers (p : List Byte) (s : State) : RequestOffers s (takeRpQuery p s) := by
  refine .guard ?_
  split
  · exact .unchanged
  · exact .refuse _ s

theorem takePairConfig_offers (p : List Byte) (s : State) : RequestOffers s (takePairConfig p s) := by
  refine .guard ?_
  split
  · exact .guard (.accept (configPair_offers _ _ _ s))
  · exact .refuse _ s

theorem takeRouteSet_offers (p : List Byte) (s : State) : RequestOffers s (takeRouteSet p s) := by
  refine .guard ?_
  split
  · exact .accept (.of_eq rfl)
  · exact .refuse _ s

theorem takePinConfig_offers (p : List Byte) (s : State) : RequestOffers s (takePinConfig p s) := by
  refine .guard ?_
  split
  · exact .accept (.of_eq rfl)
  · exact .refuse _ s

theorem takeFaultConfig_offers (p : List Byte) (s : State) : RequestOffers s (takeFaultConfig p s) := by
  refine .guard ?_
  split
  · split
    · exact .guard (.accept (.of_eq rfl))
    · exact .refuse _ s
  · exact .refuse _ s

theorem takeFaultClear_offers (p : List Byte) (s : State) : RequestOffers s (takeFaultClear p s) := by
  refine .guard ?_
  split
  · exact .refuse _ s
  · refine .guard ?_
    split
    · exact .accept (clearFault_offers _ s)
    · exact .unchanged

theorem takeFaultQuery_offers (p : List Byte) (s : State) : RequestOffers s (takeFaultQuery p s) := by
  refine .guard ?_
  split
  · exact .unchanged
  · exact .refuse _ s

theorem takeSmConfig_offers (p : List Byte) (s : State) : RequestOffers s (takeSmConfig p s) := by
  refine .guard ?_
  split
  · exact .accept (.of_eq (settleSpeed_reports _))
  · exact .refuse _ s

theorem takeSmQuery_offers (p : List Byte) (s : State) : RequestOffers s (takeSmQuery p s) := by
  refine .guard ?_
  split
  · exact .unchanged
  · exact .refuse _ s

/-! ### The three requests to the queue, and all of them -/

/-- A new window is refused where more records are sent (R145, step 3). -/
theorem takeSetLink_reportsSound {s : State} (h : s.reports.Sound) (p : List Byte) :
    (takeSetLink p s).2.reports.Sound := by
  unfold takeSetLink
  split
  · exact h
  · split
    · next rate window limit _ hwindow _ =>
      split
      · exact h
      · next hlarge =>
        dsimp only
        rw [State.changeLink_eq]
        cases window with
        | none => exact h
        | some w =>
          have hfits : s.reports.sentCount ≤ w :=
            Nat.not_lt.mp fun hlt => hlarge ((s.windowTooSmall_iff _).mpr ⟨w, rfl, hlt⟩)
          exact { h with sentCount := hfits, window := within?_some (change?_some hwindow) }
    · exact h

theorem takeRptAck_reportsSound {s : State} (h : s.reports.Sound) (p : List Byte) :
    (takeRptAck p s).2.reports.Sound := by
  unfold takeRptAck
  split
  · exact h
  · split
    · exact h
    · exact h.drop _

theorem takeRptResend_reportsSound {s : State} (h : s.reports.Sound) (p : List Byte) :
    (takeRptResend p s).2.reports.Sound := by
  unfold takeRptResend
  split
  · exact h
  · exact h.unsendAll

theorem perform_reportsSound {s : State} (h : s.reports.Sound) (f : Frame) : (perform f s).2.reports.Sound := by
  have block {e : Reply × State} (he : RequestOffers s e) : e.2.reports.Sound := OnlyOffers.sound he h
  unfold perform
  split
  · exact h
  · next kind _ =>
    cases kind with
    | getInfo => exact block (takeGetInfo_offers _ s)
    | getStatus => exact block (takeGetStatus_offers _ s)
    | setLink => exact takeSetLink_reportsSound h _
    | resetDevice => exact block (takeResetDevice_offers _ s)
    | tbConfig => exact block (takeTbConfig_offers _ s)
    | tbStart => exact block (takeTbStart_offers _ s)
    | tbStop => exact block (takeTbStop_offers _ s)
    | tbPeriod => exact block (takeTbPeriod_offers _ _ s)
    | tbQuery => exact block (takeTbQuery_offers _ s)
    | chQuota => exact block (takeChQuota_offers _ s)
    | segAppend => exact block (takeSegAppend_offers _ s)
    | segReplace => exact block (takeSegReplace_offers _ _ s)
    | chConfig => exact block (takeChConfig_offers _ s)
    | chLevel => exact block (takeChLevel_offers _ _ s)
    | chStart => exact block (takeChStart_offers _ s)
    | chPause => exact block (takeChPause_offers _ s)
    | chResume => exact block (takeChResume_offers _ s)
    | chFlush => exact block (takeChFlush_offers _ s)
    | chQuery => exact block (takeChQuery_offers _ s)
    | rpDefine => exact block (takeRpDefine_offers _ s)
    | rpQuery => exact block (takeRpQuery_offers _ s)
    | pairConfig => exact block (takePairConfig_offers _ s)
    | routeSet => exact block (takeRouteSet_offers _ s)
    | pinConfig => exact block (takePinConfig_offers _ s)
    | outQuery => exact block (takeOutQuery_offers _ s)
    | faultConfig => exact block (takeFaultConfig_offers _ s)
    | faultClear => exact block (takeFaultClear_offers _ s)
    | faultQuery => exact block (takeFaultQuery_offers _ s)
    | smConfig => exact block (takeSmConfig_offers _ s)
    | smQuery => exact block (takeSmQuery_offers _ s)
    | rptAck => exact takeRptAck_reportsSound h _
    | rptResend => exact takeRptResend_reportsSound h _

/-! ## The arbiter, the handler and the arrival of a frame -/

theorem State.arbitrate_reportsSound {s : State} (h : s.reports.Sound) : s.arbitrate.reports.Sound := by
  unfold State.arbitrate
  split
  · split
    · exact h
    · unfold State.sendReport
      split
      · next hroom =>
        split
        · exact h
        · next hsend => exact h.send hroom hsend
      · exact h
  · exact h

theorem State.takeRequest_reportsSound {s : State} (h : s.reports.Sound) : s.takeRequest.reports.Sound := by
  unfold State.takeRequest
  split
  · exact h
  · next f rest _ =>
    unfold State.handle
    split
    · exact h
    · exact perform_reportsSound (s := s.modLink fun l => { l with inbound := rest }) h f

theorem State.settleFor_reportsSound (n : Nat) {s : State} (h : s.reports.Sound) :
    (State.settleFor n s).reports.Sound := by
  induction n generalizing s with
  | zero => exact State.arbitrate_reportsSound h
  | succ n ih =>
    unfold State.settleFor
    dsimp only
    split
    · exact ih (State.takeRequest_reportsSound (State.arbitrate_reportsSound h))
    · exact State.arbitrate_reportsSound h

theorem State.settle_reportsSound {s : State} (h : s.reports.Sound) : s.settle.reports.Sound :=
  State.settleFor_reportsSound _ h

theorem State.deliver_reportsSound {s : State} (h : s.reports.Sound) (f : Frame) : (s.deliver f).reports.Sound := by
  have hoffered : (s.arbitrate.hearHost.modLink fun l => l.offerFrame f).reports.Sound :=
    State.arbitrate_reportsSound h
  unfold State.deliver
  dsimp only
  split
  · exact State.settle_reportsSound (State.takeRequest_reportsSound hoffered)
  · exact State.settle_reportsSound hoffered

theorem receiveRequest_reportsSound {s : State} (h : s.reports.Sound) (type seq : Byte) (payload : List Byte) :
    (receiveRequest type seq payload s).reports.Sound := by
  unfold receiveRequest
  split
  · exact h
  · exact State.deliver_reportsSound (s := s.modLink Link.afterFrame) h _

/-! ## The events -/

theorem State.receiveByte_reportsSound {s : State} (h : s.reports.Sound) (b : Byte) :
    (s.receiveByte b).reports.Sound := by
  unfold State.receiveByte
  split
  · split <;> exact h
  · split <;> exact h
  · exact h
  · exact h
  · unfold State.checkFrame
    dsimp only
    split
    · exact State.deliver_reportsSound (s := s.modLink Link.discardFrame) h _
    · exact h

theorem ReportQueue.reset_sound (cause : ResetCause) : (ReportQueue.reset cause).Sound :=
  (ReportQueue.reset cause).sound_iff.mpr (ReportQueue.reset_inv cause)

theorem State.heldInReset_reportsSound (s : State) : s.heldInReset.reports.Sound :=
  ⟨Nat.zero_le _, nofun, rfl, ⟨0, 0, rfl⟩, Nat.zero_le _, Nat.le_add_left 1 3, Nat.le_add_right 4 4⟩

theorem State.applyTied_reportsSound {s : State} (h : s.reports.Sound) (tied : Tied) :
    (s.applyTied tied).reports.Sound := by
  cases tied with
  | none => exact h
  | rate => exact h
  | softReset => exact ReportQueue.reset_sound .soft

theorem State.expire_reportsSound {s : State} (h : s.reports.Sound) (m : MsTimer) : (s.expire m).reports.Sound := by
  cases m with
  | gather p => exact (expireGathering_offers p s).sound h
  | window u => exact (expireWindow_offers u s).sound h
  | silence => exact (activateFault_offers silence _).sound h
  | interByte => exact h
  | breakDetector => exact h.unsendAll

theorem State.takeExpiry_reportsSound {s : State} (h : s.reports.Sound) (m : MsTimer) :
    (s.takeExpiry m).reports.Sound := by
  unfold State.takeExpiry
  dsimp only
  split
  · exact State.expire_reportsSound h m
  · exact h

theorem State.tickMillisecond_reportsSound {s : State} (h : s.reports.Sound) :
    s.tickMillisecond.reports.Sound := by
  refine forEachInAnyOrder_induction (fun u => u.reports.Sound) s.dueTimers State.expireIfDue (fun _ _ hu => hu)
    (fun m _ u hu => ?_) s.advanceTimers h
  unfold State.expireIfDue
  split
  · exact State.settle_reportsSound (State.expire_reportsSound hu m)
  · exact hu

theorem State.event_reportsSound {s t : State} (h : s.reports.Sound) {f : State → State} (hf : (f s).reports.Sound)
    (ht : s.event f = .next t) : t.reports.Sound := by
  cases ht
  split
  · exact h
  · exact State.settle_reportsSound hf

theorem execPairRiseDelayExpiry_reportsSound {k : Fin 8} {s t : State} (h : s.reports.Sound)
    (ht : execPairRiseDelayExpiry k s = .next t) : t.reports.Sound := by
  refine State.event_reportsSound h ?_ ht
  split
  · exact h
  · split <;> exact h

theorem execInputSample_reportsSound {lines : InputLines} {s t : State} (h : s.reports.Sound)
    (ht : execInputSample lines s = .next t) : t.reports.Sound := by
  have hunits : (State.mapUnits (fun u unit => unit.sample lines.tach[u])
      { s with inputs := lines, samplePhase := 0 }).reports = s.reports := rfl
  refine State.event_reportsSound h ?_ ht
  exact (sampleFaults_offers lines.flt _).sound (hunits ▸ h)

theorem execTransmitCompletion_reportsSound {s t : State} (h : s.reports.Sound)
    (ht : execTransmitCompletion s = .next t) : t.reports.Sound := by
  unfold execTransmitCompletion at ht
  split at ht
  · cases ht
    refine State.settle_reportsSound ?_
    split
    · exact State.applyTied_reportsSound (s := s.modLink fun l => { l with tx := .idle }) h _
    · exact h
  · cases ht; exact h
  · cases ht; exact h

theorem execAbortedFrameEnd_reportsSound {s t : State} (h : s.reports.Sound)
    (ht : execAbortedFrameEnd s = .next t) : t.reports.Sound := by
  unfold execAbortedFrameEnd at ht
  split at ht <;> cases ht
  · exact State.settle_reportsSound (s := s.modLink fun l => { l with tx := .idle }) h
  · exact h
  · exact h

/-- Every command keeps the laws of the queue: an event by its own block, a request frame by what `perform` does. -/
theorem exec_reportsSound (c : Instr) {s t : State} (h : s.reports.Sound) (ht : exec c s = .next t) :
    t.reports.Sound := by
  have request (type seq : Byte) (payload : List Byte) (hr : Host.Outcome.next (receiveRequest type seq payload s) =
      (.next t : Host.Outcome State Fault Refusal)) : t.reports.Sound :=
    Host.Outcome.next.inj hr ▸ receiveRequest_reportsSound h type seq payload
  cases c with
  | powerOnReset => cases ht; exact State.settle_reportsSound (ReportQueue.reset_sound .powerOn)
  | rstNAssert => cases ht; exact s.heldInReset_reportsSound
  | pinReset => cases ht; exact State.settle_reportsSound (ReportQueue.reset_sound .pin)
  | millisecondTick => exact State.event_reportsSound h (State.tickMillisecond_reportsSound h) ht
  | timebaseTick b =>
    refine State.event_reportsSound h ?_ ht
    split
    · exact (tickTimebase_offers b s).sound h
    · exact h
  | boundary b =>
    refine State.event_reportsSound h ?_ ht
    split
    · exact (boundary_offers false b s).sound h
    · exact h
  | pairRiseDelayExpiry k => exact execPairRiseDelayExpiry_reportsSound h ht
  | inputSample lines => exact execInputSample_reportsSound h ht
  | gatheringTimerExpiry p => exact State.event_reportsSound h (State.takeExpiry_reportsSound h _) ht
  | speedWindowExpiry u => exact State.event_reportsSound h (State.takeExpiry_reportsSound h _) ht
  | hostSilenceExpiry => exact State.event_reportsSound h (State.takeExpiry_reportsSound h _) ht
  | interByteTimeout => exact State.event_reportsSound h (State.takeExpiry_reportsSound h _) ht
  | linkBreak => exact State.event_reportsSound h (State.takeExpiry_reportsSound h _) ht
  | characterReceived b =>
    cases ht
    split
    · exact h
    · exact State.settle_reportsSound (State.receiveByte_reportsSound (s := s.stopBit) h b)
  | characterFault => cases ht; split <;> exact h
  | transmitCompletion => exact execTransmitCompletion_reportsSound h ht
  | abortedFrameEnd => exact execAbortedFrameEnd_reportsSound h ht
  | rxdRisingEdge => cases ht; exact h
  | rxdFallingEdge => cases ht; exact h
  | _ => exact request _ _ _ ht

theorem step_reportsSound {s t : State} (h : s.reports.Sound) (ht : step s = .next t) : t.reports.Sound := by
  unfold step at ht
  split at ht
  · next c rest _ => exact exec_reportsSound c (s := { s with pending := rest }) h ht
  · refine State.idleStep_induction (fun u => u.reports.Sound) s t ht h ?_ fun c _ n u hu =>
      exec_reportsSound c (s := { s with choice := n }) h hu
    exact State.arbitrate_reportsSound h

/-- Settles O56: the blocks only offer reports, and an offer, a sent record, an acknowledgement, a cleared flag, a window
and a reset each keep the columns of the records. -/
theorem stepKeepsTheReportQueue : Obligations.StepKeepsTheReportQueue := fun s t h ht =>
  t.reports.sound_iff.mp (step_reportsSound (s.reports.sound_iff.mpr h) ht)

end Sys2Proof.Machine

namespace Sys2Proof.Machine

/-! # O29: RPT_ACK and RPT_RESEND -/

theorem perform_rptAck (seq : Byte) (p : List Byte) (s : State) :
    perform (requestFrame seq RequestKind.rptAck.code p) s = takeRptAck p s := rfl

theorem perform_rptResend (seq : Byte) (p : List Byte) (s : State) :
    perform (requestFrame seq RequestKind.rptResend.code p) s = takeRptResend p s := rfl

/-- The records counted are the older ones and the named one (R152). -/
theorem ackCount_of_sent {older newer : List Record} {r : Record} (hother : ∀ x ∈ older, x.number ≠ r.number)
    (hr : r.sent = true) : ackCount r.number (older ++ r :: newer) = some (older.length + 1) := by
  induction older with
  | nil => simp [ackCount, hr]
  | cons x older ih =>
    rw [List.forall_mem_cons] at hother
    simp [ackCount, hother.1, ih hother.2]

theorem ackCount_of_none_sent {n : Byte} {rs : List Record} (h : ∀ r ∈ rs, r.number = n → r.sent = false) :
    ackCount n rs = none := by
  induction rs with
  | nil => rfl
  | cons r rs ih =>
    rw [List.forall_mem_cons] at h
    by_cases hn : r.number = n
    · simp [ackCount, hn, h.1 hn]
    · simp [ackCount, hn, ih h.2]

theorem takeRptAck_of_count {n : Byte} {s : State} {count : Nat} (h : ackCount n s.reports.records = some count) :
    takeRptAck [n] s = accept .ok (le8 count ++ le8 (s.reports.records.drop count).length)
      { s with reports := { s.reports with records := s.reports.records.drop count } } := by
  have hbyte : byteAt [n] 0 = n := rfl
  rw [takeRptAck, hbyte, h]
  rfl

theorem takeRptAck_of_none {n : Byte} {s : State} (h : ackCount n s.reports.records = none) :
    takeRptAck [n] s = refuse .badArg s := by
  have hbyte : byteAt [n] 0 = n := rfl
  rw [takeRptAck, hbyte, h]
  rfl

/-- Settles O29: the count of acknowledged records decides RPT_ACK (`ackCount_of_sent`, `ackCount_of_none_sent`). -/
theorem rptAckAndRptResendEffect : Obligations.RptAckAndRptResendEffect := by
  refine ⟨fun s seq p hlen hready => ?_, fun s seq p hne hready => ?_,
    fun s seq n hready => ⟨fun older newer r hrecords hother hn hsent => ?_, fun hnone => ?_⟩, fun s seq hready => ?_⟩
  · exact refused_of_perform (k := .rptAck) hready
      (perform_wrongLength (k := .rptAck) (beq_false_of_ne hlen) seq _)
  · exact refused_of_perform (k := .rptResend) hready
      (perform_wrongLength (k := .rptResend) (beq_false_of_ne (mt List.length_eq_zero_iff.mp hne)) seq _)
  · subst hn
    have hheard : s.heard.reports.records = older ++ r :: newer := hrecords
    have hcount : ackCount r.number s.heard.reports.records = some (older.length + 1) := by
      rw [hheard]
      exact ackCount_of_sent hother hsent
    have hleft : s.heard.reports.records.drop (older.length + 1) = newer := by
      rw [hheard]
      simp
    refine accepted_of_perform (k := .rptAck) hready ?_
    rw [perform_rptAck, takeRptAck_of_count hcount, hleft]
    rfl
  · exact refused_of_perform (k := .rptAck) hready (takeRptAck_of_none (s := s.heard) (ackCount_of_none_sent hnone))
  · exact accepted_of_perform (k := .rptResend) hready (perform_rptResend seq [] s.heard)

/-! # O40: the resets -/

theorem perform_resetDevice (seq : Byte) (p : List Byte) (s : State) :
    perform (requestFrame seq RequestKind.resetDevice.code p) s = takeResetDevice p s := rfl

/-- The state that a reset and the arbiter's choice of its RESTARTED record leave (R131, R155). -/
theorem State.settle_afterReset (cause : ResetCause) (s : State) : (s.afterReset cause).settle =
    { s.afterReset cause with
      link := { Link.reset with
        rxd := s.link.rxd
        tx := .sending { kind := .report, bytes := frameBytes [0, 0x40, BitVec.ofNat 8 cause.code] } .b115200 0 }
      reports := { records := [{ number := 0, report := .restarted cause, sent := true }], next := 1, window := 4 } } := by
  rw [State.settle_of_inbound_nil _ rfl, State.arbitrate_of_none_held rfl rfl]
  exact State.sendReport_of_unsent (s := s.afterReset cause) (sent := []) (rest := [])
    (r := { number := 0, report := .restarted cause, sent := false }) (Nat.zero_lt_succ 3) rfl nofun rfl

/-- Settles O40: each reset ends in the state of `State.settle_afterReset`; RST_N held low leaves no record. -/
theorem resetEffects : Obligations.ResetEffects := by
  refine ⟨fun s seq hready => ?_, fun s => ?_⟩
  · exact answered_of_perform .resetDevice seq [] s s.heard _ hready (perform_resetDevice seq [] s.heard)
  · intro values restarted sending
    have hends (cause : ResetCause) : (.next (s.afterReset cause).settle : Host.Outcome State Fault Refusal) =
        .next (sending cause) := congrArg Host.Outcome.next (s.settle_afterReset cause)
    exact ⟨hends .powerOn, hends .pin, rfl, fun frame rate age htx hkind =>
      (exec_transmitCompletion_response htx hkind).trans (hends .soft)⟩

/-! # O49: the entry of a report, and the bytes of its frame -/

theorem ReportQueue.offer_of_room {q : ReportQueue} (h : q.records.length ≤ 30) (r : Report) :
    q.offer r = q.append r := if_pos h

/-- Above 30 records the newest one decides (R150). -/
theorem ReportQueue.offer_of_newest {q : ReportQueue} {older : List Record} {newest : Record}
    (hrecords : q.records = older ++ [newest]) (h : 30 ≤ older.length) (r : Report) :
    q.offer r = if newest.isOverflow then { q with records := older ++ [newest.countDropped] }
      else if older.length = 30 then q.append (.overflow 1) else q := by
  have hfull : ¬older.length + 1 ≤ 30 := by omega
  simp [ReportQueue.offer, hrecords, hfull]

/-- Settles O49: the bytes kind by kind, and an offer by the length of the queue and its newest record. -/
theorem reportEntry : Obligations.ReportEntry := by
  refine ⟨fun number sent => ?_, fun q r => ⟨fun hroom => ?_, fun older newest n hrecords hlen hover => ?_,
    fun older newest hrecords hlen hnot => ?_⟩⟩
  · intro body n lsb2
    refine ⟨rfl, rfl, rfl, fun _ => rfl, fun _ _ _ => rfl, fun _ _ => ⟨rfl, rfl⟩, fun _ _ => ⟨rfl, rfl, rfl, rfl⟩,
      fun p g members => ?_, fun p g arrived missing => ?_, fun _ _ => rfl, fun _ _ _ => rfl,
      fun _ _ => ⟨rfl, rfl, rfl⟩, fun _ => rfl, fun _ _ => ⟨rfl, rfl, rfl⟩, fun _ => rfl⟩
    · show [number, 0x45] ++ (le8 p.val ++ le8 g.toNat ++ le16 members.toNat) = _
      rw [le8_toNat]
      rfl
    · show [number, 0x46] ++ (le8 p.val ++ le8 g.toNat ++ le16 arrived.toNat ++ le16 missing.toNat) = _
      rw [le8_toNat]
      rfl
  · exact ReportQueue.offer_of_room hroom r
  · rw [ReportQueue.offer_of_newest hrecords hlen]
    obtain ⟨number, report, sent⟩ := newest
    cases hover
    rfl
  · rw [ReportQueue.offer_of_newest hrecords hlen.ge, hnot, if_neg Bool.false_ne_true, if_pos hlen]
    rfl

end Sys2Proof.Machine

namespace Sys2Proof.Machine

/-! # O3: commands while RST_N is low

Held low, RST_N stops every event and every request frame (section 6.6, log entry 12); the frame ends alone look at the
transmitter instead, and find it IDLE once the frame in flight has ended. -/

theorem State.event_of_held {s : State} (hheld : s.held = true) (f : State → State) : s.event f = .next s := by
  rw [State.event, hheld]
  rfl

theorem execInputSample_of_held {s : State} (hheld : s.held = true) (lines : InputLines) :
    execInputSample lines s = .next s := State.event_of_held hheld _

theorem receiveRequest_of_held {s : State} (hheld : s.held = true) (type seq : Byte) (payload : List Byte) :
    receiveRequest type seq payload s = s := by
  rw [receiveRequest, hheld]
  rfl

theorem exec_characterReceived_of_held {s : State} (hheld : s.held = true) (b : Byte) :
    exec (.characterReceived b) s = .next s := by
  rw [exec_characterReceived_eq, State.afterCharacter, hheld]
  rfl

theorem exec_characterFault_of_held {s : State} (hheld : s.held = true) : exec .characterFault s = .next s := by
  show execCharacterFault s = _
  rw [execCharacterFault, hheld]
  rfl

/-- Settles O3: an event by `State.event_of_held`, a character and a frame end by its own rule, a request by
`receiveRequest_of_held`; resets and edges of RXD are excluded. -/
theorem heldPartIgnoresCommands : Obligations.HeldPartIgnoresCommands := by
  intro c s hheld hidle hpower hassert hpin hrise hfall
  have request (type seq : Byte) (payload : List Byte) :
      (.next (receiveRequest type seq payload s) : Host.Outcome State Fault Refusal) = .next s :=
    congrArg Host.Outcome.next (receiveRequest_of_held hheld type seq payload)
  obtain ⟨hcompletion, habortedEnd⟩ := exec_frameEnds_of_idle hidle
  cases c with
  | powerOnReset => exact absurd rfl hpower
  | rstNAssert => exact absurd rfl hassert
  | pinReset => exact absurd rfl hpin
  | rxdRisingEdge => exact absurd rfl hrise
  | rxdFallingEdge => exact absurd rfl hfall
  | pairRiseDelayExpiry k => exact (exec_pairRiseDelayExpiry k s).trans (State.event_of_held hheld _)
  | inputSample lines => exact execInputSample_of_held hheld lines
  | millisecondTick | timebaseTick _ | boundary _ | gatheringTimerExpiry _ | speedWindowExpiry _ | hostSilenceExpiry
  | interByteTimeout | linkBreak => exact State.event_of_held hheld _
  | characterReceived b => exact exec_characterReceived_of_held hheld b
  | characterFault => exact exec_characterFault_of_held hheld
  | transmitCompletion => exact hcompletion
  | abortedFrameEnd => exact habortedEnd
  | _ => exact request _ _ _

/-! # O1: a step with a command waiting -/

theorem step_of_pending {s : State} {c : Instr} {rest : List Instr} (h : s.pending = c :: rest) :
    step s = exec c { s with pending := rest } := by
  rw [step, h]

/-- Settles O1: the front command of a queue that is not empty is taken before any event due (log entry 7). -/
theorem stepTakesTheFrontCommand : Obligations.StepTakesTheFrontCommand := fun _ _ _ => step_of_pending

/-! # O41: the reset values

Every bank is filled with its record's reset value; the fault sources alone differ, FLT0 and FLT1 having an input. -/

theorem State.reset_tbs (b : Fin 4) : State.reset.tbs[b] = .reset := Vector.getElem_replicate _

theorem State.reset_chans (c : Fin 16) : State.reset.chans[c] = .reset := Vector.getElem_replicate _

theorem State.reset_points (p : Fin 8) : State.reset.points[p] = .reset := Vector.getElem_replicate _

theorem State.reset_pairs (k : Fin 8) : State.reset.pairs[k] = .reset := Vector.getElem_replicate _

theorem State.reset_routes (e : Fin 24) : State.reset.routes[e] = .reset := Vector.getElem_replicate _

theorem State.reset_idles (o : Fin 20) : State.reset.idles[o] = .float := Vector.getElem_replicate _

theorem State.reset_units (u : Fin 4) : State.reset.units[u] = .reset := Vector.getElem_replicate _

theorem State.reset_faults (f : Fin 4) :
    State.reset.faults[f] = if f.val < 2 then FaultSource.resetFlt else FaultSource.resetOther :=
  match f with
  | 0 | 1 | 2 | 3 => rfl

/-- No entry of the router is enabled at reset, so every pin has its idle state (R89, R91). -/
theorem State.reset_pinValue (o : Fin 20) : State.reset.pinValue o = .float := by
  have hnone : State.reset.winner o = none := State.winner_eq_none_iff.mpr fun e ⟨henabled, _⟩ => by
    rw [State.reset_routes] at henabled
    exact Bool.false_ne_true henabled
  rw [State.pinValue_of_none hnone, State.reset_idles]

/-- Settles O41: each bank's record is its reset value, whose fields are those of its table; a pin's value needs the
arbiter (`State.reset_pinValue`). -/
theorem resetValues : Obligations.ResetValues := by
  refine ⟨fun b => ?tbs, rfl, fun c => ?chans, State.reset_points, State.reset_pairs, State.reset_routes,
    fun o => ⟨State.reset_idles o, State.reset_pinValue o⟩, fun f => ?faults, State.reset_units, ?link, rfl, rfl⟩
  case tbs => simp only [State.reset_tbs, Timebase.reset, and_self]
  case chans => simp only [State.reset_chans, Channel.reset, and_self]
  case faults =>
    rw [State.reset_faults]
    split <;> exact ⟨rfl, rfl, rfl, rfl, rfl⟩
  case link => exact ⟨rfl, rfl, rfl, rfl, rfl, rfl, rfl, rfl, rfl, rfl, rfl, rfl, rfl, rfl, rfl, rfl⟩

end Sys2Proof.Machine
